-- ==== Sys2Proof/Word.lean ====
section
/-! DEFINITION. The words of the block (00_scope.md R8, R9): every field is unsigned, bit 0 is the least significant. -/

namespace Sys2Proof

/-- A byte, the only addressable unit (20_memory.md R50). -/
abbrev Byte := BitVec 8

/-- An 11-bit arbitration id (10_state.md R21). -/
abbrev ArbId := BitVec 11

/-- The 79-bit frame word `W[78:0]` (30_encoding.md R70). -/
abbrev FrameWord := BitVec 79

/-- The 2-bit command code (30_encoding.md R80). -/
abbrev CmdCode := BitVec 2

/-- The 11-bit status word `STAT` (10_state.md R32). -/
abbrev StatWord := BitVec 11

end Sys2Proof
end

