-- ==== Sys2Proof/Syntax.lean ====
section
/-! DEFINITION. The instructions: one constructor per row of spec/opcode_table.json (30_encoding.md R84), and the frames their words are made of. -/

namespace Sys2Proof

/-- The data field of a frame: data bytes 0 to 7 in wire order (10_state.md R21, 20_memory.md R50, R53). -/
structure FrameData where
  d0 : Byte
  d1 : Byte
  d2 : Byte
  d3 : Byte
  d4 : Byte
  d5 : Byte
  d6 : Byte
  d7 : Byte
deriving DecidableEq, Repr, Inhabited

/-- The contents of the frame group `FRM`: `DLC` is a 4-bit field and can hold 9 to 15
(10_state.md R29, 41_frame_decode.md R119). -/
structure Frame where
  id   : ArbId
  dlc  : BitVec 4
  data : FrameData
deriving DecidableEq, Repr, Inhabited

/-- A `CanFrame`: at most 8 valid data bytes, by type (10_state.md R21, R22). -/
structure CanFrame where
  arbitrationId : ArbId
  dlc           : Fin 9
  data          : FrameData
deriving DecidableEq, Repr, Inhabited

/-- The operand fields of a word in the `RSP` format other than the pid byte (30_encoding.md R73):
`ecu` is `ID[2:0]`, `n` the length byte, `d3` to `d7` the payload and padding bytes. -/
structure RspFields where
  ecu : BitVec 3
  dlc : BitVec 4
  n   : Byte
  d3  : Byte
  d4  : Byte
  d5  : Byte
  d6  : Byte
  d7  : Byte
deriving DecidableEq, Repr

/-- One constructor per row of the opcode table. -/
inductive Instr where
  /-- `NOP`, 40_frame_encode.md R104. -/
  | nop
  /-- `ENC`, 40_frame_encode.md R101. -/
  | enc
  /-- `DECF`, 41_frame_decode.md R116. -/
  | decf
  /-- `DECP`, 42_pid_decode.md R137. -/
  | decp
  /-- `DECP.STD`, 42_pid_decode.md R134. -/
  | decpStd
  /-- `DECP.FUEL`, 42_pid_decode.md R135. -/
  | decpFuel
  /-- `DECP.RUNTIME`, 42_pid_decode.md R136. -/
  | decpRuntime
  /-- `REQ`, 30_encoding.md R72: the request frame for a pid; its padding bytes are the parameter `PAD`. -/
  | req (pid : Byte)
  /-- `REQ.STD`, 30_encoding.md R75. -/
  | reqStd
  /-- `REQ.FUEL`, 30_encoding.md R75. -/
  | reqFuel
  /-- `REQ.RUNTIME`, 30_encoding.md R75. -/
  | reqRuntime
  /-- `RSP`, 30_encoding.md R73. -/
  | rsp (pid : Byte) (f : RspFields)
  /-- `RSP.STD`, 30_encoding.md R76. -/
  | rspStd (f : RspFields)
  /-- `RSP.FUEL`, 30_encoding.md R76. -/
  | rspFuel (f : RspFields)
  /-- `RSP.RUNTIME`, 30_encoding.md R76. -/
  | rspRuntime (f : RspFields)
deriving DecidableEq, Repr

/-- The formats of the opcode table. -/
inductive Format where
  | cmd
  | pidsel
  | req
  | rsp
deriving DecidableEq, Repr

/-- The `format` column of an instruction's row. -/
def Instr.format : Instr → Format
  | .nop => .cmd
  | .enc => .cmd
  | .decf => .cmd
  | .decp => .cmd
  | .decpStd => .pidsel
  | .decpFuel => .pidsel
  | .decpRuntime => .pidsel
  | .req _ => .req
  | .reqStd => .req
  | .reqFuel => .req
  | .reqRuntime => .req
  | .rsp _ _ => .rsp
  | .rspStd _ => .rsp
  | .rspFuel _ => .rsp
  | .rspRuntime _ => .rsp

/-- The encoded words: a command code written to `CMD` (R80), the selector byte in `RSP.PID` (R81), a
frame word (R70). -/
inductive InstrWord where
  | cmd (c : CmdCode)
  | sel (b : Byte)
  | frame (w : FrameWord)
deriving DecidableEq, Repr

end Sys2Proof
end

