-- ==== Sys2Proof/Config.lean ====
section
/-! DEFINITION. The implementation parameters of 00_scope.md R7: the ones the source fixes as constants, the OPEN ones as the record `Params`, and the free values (constants without a body). -/

namespace Sys2Proof

/-- `REQ_ID`, the functional request id (R7, decision D5). -/
def Config.reqId : ArbId := 0x7DF
/-- `REQ_ID_PHYS`, named by the source and used by nobody (R7, 20_memory.md R51). -/
def Config.reqIdPhys : ArbId := 0x7E0
/-- `RSP_ID_LO` (R7). -/
def Config.rspIdLo : ArbId := 0x7E8
/-- `RSP_ID_HI` (R7). -/
def Config.rspIdHi : ArbId := 0x7EF
/-- `SID_REQ` (R7). -/
def Config.sidReq : Byte := 0x01
/-- `SID_OFFSET` (R7). -/
def Config.sidOffset : Byte := 0x40
/-- `SID_RSP = SID_REQ + SID_OFFSET` (R7). -/
def Config.sidRsp : Byte := Config.sidReq + Config.sidOffset
/-- `FRAME_BYTES` (R7). -/
def Config.frameBytes : Nat := 8
/-- `MAX_PAYLOAD` (R7). -/
def Config.maxPayload : Nat := 4
/-- `REQ_LEN` (R7). -/
def Config.reqLen : Byte := 0x02
/-- `PID_FUEL` (R7). -/
def Config.pidFuel : Byte := 0x2F

/-- The closed set of parameter ids the PID Decoder interprets (R2). -/
inductive PidKind where
  | standard
  | fuel
  | runtime
deriving DecidableEq, Repr

/-- `NEED(kind)` (R7). -/
def PidKind.need : PidKind → Nat
  | .standard => 1
  | .fuel => 1
  | .runtime => 2

/-- A recognised OBD-standard code and its name (R7, `STD_TABLE`). -/
structure StdEntry where
  code : Byte
  name : String
deriving DecidableEq, Repr

/-- The OPEN parameters the block's behaviour depends on (R7). A model takes them as an argument: every state
carries them, so a statement about every state is a statement about every choice. `T_QUERY` shows only as
the finite event list of a query (43_query_sequencer.md R152) and `FUEL_FMT` lies outside the block
(42_pid_decode.md R140). -/
structure Params where
  pad        : Byte
  pidStd     : Byte
  pidRuntime : Byte
  stdTable   : List StdEntry
deriving DecidableEq, Repr

/-- The constraint of R7: the three pids are pairwise distinct. -/
def Params.valid (p : Params) : Bool :=
  p.pidStd != Config.pidFuel && p.pidRuntime != Config.pidFuel && p.pidStd != p.pidRuntime

/-- The pid byte of a kind (R7). -/
def Params.pidOf (p : Params) : PidKind → Byte
  | .standard => p.pidStd
  | .fuel => Config.pidFuel
  | .runtime => p.pidRuntime

/-- Default of `PID_STD`. PRESUMED (the spec marks it general knowledge): log entry 4, unsafe. -/
def Config.defaultPidStd : Byte := 0x1C
/-- Default of `PID_RUNTIME`. PRESUMED (the spec marks it general knowledge): log entry 4, unsafe. -/
def Config.defaultPidRuntime : Byte := 0x1F

/-- Codes 1 to 13 of the default `STD_TABLE` (93_implementation_defined.md U9). -/
def Config.stdTableLow : List StdEntry :=
  [⟨1, "OBD-II as defined by CARB"⟩, ⟨2, "OBD as defined by EPA"⟩, ⟨3, "OBD and OBD-II"⟩, ⟨4, "OBD-I"⟩,
   ⟨5, "not OBD compliant"⟩, ⟨6, "EOBD"⟩, ⟨7, "EOBD and OBD-II"⟩, ⟨8, "EOBD and OBD"⟩,
   ⟨9, "EOBD, OBD and OBD-II"⟩, ⟨10, "JOBD"⟩, ⟨11, "JOBD and OBD-II"⟩, ⟨12, "JOBD and EOBD"⟩,
   ⟨13, "JOBD, EOBD and OBD-II"⟩]

/-- Codes 17 to 33 of the default `STD_TABLE` (93_implementation_defined.md U9). -/
def Config.stdTableHigh : List StdEntry :=
  [⟨17, "EMD"⟩, ⟨18, "EMD+"⟩, ⟨19, "HD OBD-C"⟩, ⟨20, "HD OBD"⟩, ⟨21, "WWH OBD"⟩, ⟨23, "HD EOBD-I"⟩,
   ⟨24, "HD EOBD-I N"⟩, ⟨25, "HD EOBD-II"⟩, ⟨26, "HD EOBD-II N"⟩, ⟨28, "OBDBr-1"⟩, ⟨29, "OBDBr-2"⟩,
   ⟨30, "KOBD"⟩, ⟨31, "IOBD I"⟩, ⟨32, "IOBD II"⟩, ⟨33, "HD EOBD-IV"⟩]

/-- The default `STD_TABLE` (93_implementation_defined.md U9). PRESUMED: log entry 4, unsafe. -/
def Config.defaultStdTable : List StdEntry := Config.stdTableLow ++ Config.stdTableHigh

/-- The parameters at their defaults with a given padding byte: what opcode_table.json is written for (R84). -/
def Config.defaultsAt (pad : Byte) : Params :=
  { pad := pad, pidStd := Config.defaultPidStd, pidRuntime := Config.defaultPidRuntime,
    stdTable := Config.defaultStdTable }

/-- One event of the oracle's list `L`: what `receive` answers before the query's budget runs out
(43_query_sequencer.md R152). -/
inductive RxEvent where
  | frame (g : CanFrame)
  | failure
deriving DecidableEq, Repr

/-- The oracle's inputs for one query: (a) whether `send` succeeds, (b) the event list (R152). -/
structure TransportInput where
  sendOk : Bool
  events : List RxEvent
deriving DecidableEq, Repr, Inhabited

/-- The oracle's inputs for one opening of the connection: whether it succeeds (93_implementation_defined.md U16), and
what the bus receive queue then holds (U14). -/
structure OpenInput where
  ok    : Bool
  queue : List RxEvent
deriving DecidableEq, Repr, Inhabited

/-- The padding byte, a FREE VALUE: `PAD` is OPEN and the spec gives no default (R7, D6; log entry 3, safe). -/
opaque Config.freePad : Byte

/-- What the bus receive queue holds at reset, a FREE VALUE (93_implementation_defined.md U14; log entry 5, safe). -/
opaque Config.freeRxq : List RxEvent

/-- The transport's inputs where the state lists none, FREE VALUES (R152: the oracle is under no law; log entry
5, safe). -/
opaque Config.freeInput : Nat → TransportInput

/-- The inputs of an opening of the connection where the state lists none, FREE VALUES (93_implementation_defined.md
U14, U16; log entries 15 and 27, safe). -/
opaque Config.freeOpen : Nat → OpenInput

/-- The data bytes beyond the payload of the frame that `decode(p, s)` loads, FREE VALUES: 30_encoding.md R83 does not
write them and 93_implementation_defined.md U3 lets them be any value (log entry 26, safe). -/
opaque Config.freeFill : Byte → List Byte → FrameData

end Sys2Proof
end

