-- ==== Sys2Proof/Decode.lean ====
section
/-! DEFINITION. Decoding of the three kinds of words (30_encoding.md R70 to R84), total and rejecting by name, and after it the encoder. -/

namespace Sys2Proof

/-- Why a word is no row of the opcode table. -/
inductive Reject where
  /-- The id is neither the request id nor in the response range: unrelated traffic (30_encoding.md R71, R78). -/
  | unrelatedId
  /-- The request id with a `DLC`, length byte or service byte the encoder never builds (R72). -/
  | requestShape
  /-- The request id with a padding byte that is not `PAD` (R72). -/
  | requestPadding
  /-- A response id whose service byte is not `SID_RSP` (R73, R78). -/
  | wrongService
  /-- A selector byte outside the closed set (R81, 42_pid_decode.md R132). -/
  | unsupportedPid
deriving DecidableEq, Repr

/-- The frame word of a frame (30_encoding.md R70): most significant field first. -/
def Frame.pack (f : Frame) : FrameWord :=
  f.id ++ f.dlc ++ f.data.d0 ++ f.data.d1 ++ f.data.d2 ++ f.data.d3 ++ f.data.d4 ++ f.data.d5
    ++ f.data.d6 ++ f.data.d7

/-- The frame of a frame word (30_encoding.md R70). -/
def Frame.unpack (w : FrameWord) : Frame :=
  { id := w.extractLsb' 68 11
    dlc := w.extractLsb' 64 4
    data :=
      { d0 := w.extractLsb' 56 8, d1 := w.extractLsb' 48 8, d2 := w.extractLsb' 40 8, d3 := w.extractLsb' 32 8,
        d4 := w.extractLsb' 24 8, d5 := w.extractLsb' 16 8, d6 := w.extractLsb' 8 8, d7 := w.extractLsb' 0 8 } }

/-- The response id check: `RSP_ID_LO <= ID <= RSP_ID_HI` (41_frame_decode.md R112). -/
def idInRange (id : ArbId) : Bool :=
  decide (Config.rspIdLo ≤ id) && decide (id ≤ Config.rspIdHi)

/-- `KindOf(pid)` (42_pid_decode.md R131): exact equality of bytes with the closed set. -/
def Params.kindOf (p : Params) (pid : Byte) : Option PidKind :=
  if pid = p.pidStd then some .standard
  else if pid = Config.pidFuel then some .fuel
  else if pid = p.pidRuntime then some .runtime
  else none

/-- The constraints of an `RSP` row with least length byte `lo`: `DLC <= 8`, `lo <= N <= 6`, `N <= DLC - 1`
(30_encoding.md R73, R76, R77). -/
def RspFields.fits (f : RspFields) (lo : Nat) : Bool :=
  decide (f.dlc.toNat ≤ Config.frameBytes) && decide (lo ≤ f.n.toNat)
    && decide (f.n.toNat ≤ 2 + Config.maxPayload) && decide (f.n.toNat + 1 ≤ f.dlc.toNat)

/-- Is the response row of kind `k` the one that owns these fields: `N` at least `2 + NEED(k)` (30_encoding.md R76). -/
def RspFields.fitsKind (f : RspFields) (k : PidKind) : Bool := f.fits (2 + k.need)

/-- The command codes (30_encoding.md R80): all four are used. -/
def decodeCmd (c : CmdCode) : Instr :=
  if c = 0 then .nop
  else if c = 1 then .enc
  else if c = 2 then .decf
  else .decp

/-- The selector row of a kind (30_encoding.md R81). -/
def selectorRow : PidKind → Instr
  | .standard => .decpStd
  | .fuel => .decpFuel
  | .runtime => .decpRuntime

/-- The selector byte in `RSP.PID` (30_encoding.md R81). -/
def decodeSel (p : Params) (b : Byte) : Except Reject Instr :=
  match p.kindOf b with
  | some k => .ok (selectorRow k)
  | none => .error .unsupportedPid

/-- The request row of a kind (30_encoding.md R75). -/
def requestRow : PidKind → Instr
  | .standard => .reqStd
  | .fuel => .reqFuel
  | .runtime => .reqRuntime

/-- The response row of a kind (30_encoding.md R76). -/
def responseRow (f : RspFields) : PidKind → Instr
  | .standard => .rspStd f
  | .fuel => .rspFuel f
  | .runtime => .rspRuntime f

/-- The request rows: every field but the pid is fixed, the padding bytes are `PAD` (30_encoding.md R72, R75). -/
def decodeReq (p : Params) (f : Frame) : Except Reject Instr :=
  if f.dlc = 8 ∧ f.data.d0 = Config.reqLen ∧ f.data.d1 = Config.sidReq then
    if f.data.d3 = p.pad ∧ f.data.d4 = p.pad ∧ f.data.d5 = p.pad ∧ f.data.d6 = p.pad ∧ f.data.d7 = p.pad then
      match p.kindOf f.data.d2 with
      | some k => .ok (requestRow k)
      | none => .ok (.req f.data.d2)
    else .error .requestPadding
  else .error .requestShape

/-- The operand fields of a response frame (30_encoding.md R73, R74). -/
def Frame.rspFields (f : Frame) : RspFields :=
  { ecu := f.id.extractLsb' 0 3, dlc := f.dlc, n := f.data.d0, d3 := f.data.d3, d4 := f.data.d4,
    d5 := f.data.d5, d6 := f.data.d6, d7 := f.data.d7 }

/-- The response rows, by mask (id and service byte); of two rows that match, the instance row owns the word
unless only the general row's constraints hold (30_encoding.md R73, R76, R84). DEDUCED: log entry 16, safe. -/
def decodeRsp (p : Params) (f : Frame) : Except Reject Instr :=
  if f.data.d1 = Config.sidRsp then
    match p.kindOf f.data.d2 with
    | none => .ok (.rsp f.data.d2 f.rspFields)
    | some k =>
      if f.rspFields.fits 2 && !f.rspFields.fitsKind k then .ok (.rsp f.data.d2 f.rspFields)
      else .ok (responseRow f.rspFields k)
  else .error .wrongService

/-- A frame word: the two formats are told apart by the id (30_encoding.md R71). -/
def decodeFrame (p : Params) (w : FrameWord) : Except Reject Instr :=
  let f := Frame.unpack w
  if f.id = Config.reqId then decodeReq p f
  else if idInRange f.id then decodeRsp p f
  else .error .unrelatedId

/-- Decoding, total on every word. -/
def decode (p : Params) : InstrWord → Except Reject Instr
  | .cmd c => .ok (decodeCmd c)
  | .sel b => decodeSel p b
  | .frame w => decodeFrame p w

/-- The word an opcode-table row of `nbits` bits stands for. A table word of one byte is a command code when it
is below 4 and a selector byte otherwise; a longer one is a frame word, bit 79 being 0 (30_encoding.md R70, R80,
R81). DESIGN CHOICE: log entry 22, safe. -/
def tableWord (nbits w : Nat) : Option InstrWord :=
  if nbits ≤ 8 then
    if w < 4 then some (.cmd (BitVec.ofNat 2 w))
    else if w < 256 then some (.sel (BitVec.ofNat 8 w))
    else none
  else if w < 2 ^ 79 then some (.frame (BitVec.ofNat 79 w))
  else none

/-- The instruction of an opcode-table word. The table is written for the default pids (30_encoding.md R84)
and leaves `PAD` open: the word's own last byte is taken for it (log entry 3, safe). -/
def decodeTableWord (nbits w : Nat) : Option Instr :=
  match tableWord nbits w with
  | none => none
  | some iw =>
    match decode (Config.defaultsAt (BitVec.ofNat 8 w)) iw with
    | .ok i => some i
    | .error _ => none

/-- The request frame of a pid (30_encoding.md R72). -/
def requestFrame (p : Params) (pid : Byte) : Frame :=
  { id := Config.reqId, dlc := 8,
    data := { d0 := Config.reqLen, d1 := Config.sidReq, d2 := pid, d3 := p.pad, d4 := p.pad, d5 := p.pad,
              d6 := p.pad, d7 := p.pad } }

/-- The response frame with a pid and fields (30_encoding.md R73): the top eight id bits are `0b11111101`. -/
def responseFrame (pid : Byte) (f : RspFields) : Frame :=
  { id := (0b11111101#8) ++ f.ecu, dlc := f.dlc,
    data := { d0 := f.n, d1 := Config.sidRsp, d2 := pid, d3 := f.d3, d4 := f.d4, d5 := f.d5, d6 := f.d6,
              d7 := f.d7 } }

/-- The word of an instruction, from the encoding tables of 30_encoding.md. -/
def encode (p : Params) : Instr → InstrWord
  | .nop => .cmd 0b00
  | .enc => .cmd 0b01
  | .decf => .cmd 0b10
  | .decp => .cmd 0b11
  | .decpStd => .sel (p.pidOf .standard)
  | .decpFuel => .sel (p.pidOf .fuel)
  | .decpRuntime => .sel (p.pidOf .runtime)
  | .req pid => .frame (requestFrame p pid).pack
  | .reqStd => .frame (requestFrame p (p.pidOf .standard)).pack
  | .reqFuel => .frame (requestFrame p (p.pidOf .fuel)).pack
  | .reqRuntime => .frame (requestFrame p (p.pidOf .runtime)).pack
  | .rsp pid f => .frame (responseFrame pid f).pack
  | .rspStd f => .frame (responseFrame (p.pidOf .standard) f).pack
  | .rspFuel f => .frame (responseFrame (p.pidOf .fuel) f).pack
  | .rspRuntime f => .frame (responseFrame (p.pidOf .runtime) f).pack

end Sys2Proof
end

