-- ==== Sys2Proof/Machine/State.lean ====
section
/-! DEFINITION. The state of the machine as plain data: the register wrapper, the sequencer, the transport and what the host issues (10_state.md), the reasons a step can stop, and the state after reset (R40). -/

namespace Sys2Proof.Machine

/-- Which of the four checks failed, in the source's listed order (10_state.md R27, 41_frame_decode.md R113). -/
inductive CheckKind where
  | wrongArbitrationId
  | malformedLength
  | wrongService
  | pidMismatch
deriving DecidableEq, Repr

/-- The closed type of errors (10_state.md R27, 60_exceptions.md R181). -/
inductive Error where
  | rangeError
  | protocolError (kind : CheckKind)
  | decodeError
  | unsupportedPid
  | operandInvalid
  | timeoutError
  | transportError
deriving DecidableEq, Repr

/-- An outcome: a value or one named error, never both (00_scope.md R11). -/
inductive Result (α : Type) where
  | ok (v : α)
  | err (e : Error)
deriving DecidableEq, Repr

/-- `ObdResponse` (10_state.md R23); its payload has at most `MAX_PAYLOAD` bytes. -/
structure ObdResponse where
  serviceId : Byte
  pid       : Byte
  payload   : List Byte
deriving DecidableEq, Repr

/-- `Reading` (10_state.md R25): the fuel value is the exact rational. -/
inductive Reading where
  | obdStandard (code : Byte) (known : Bool)
  | fuelLevelPercent (q : Rat)
  | runtimeSeconds (n : Nat)
deriving DecidableEq, Repr

/-- The payload buffer `RSP.PL[0..3]` (20_memory.md R50). -/
structure Payload where
  pl0 : Byte
  pl1 : Byte
  pl2 : Byte
  pl3 : Byte
deriving DecidableEq, Repr

/-- The response group `RSP` (10_state.md R30). -/
structure RspGroup where
  sid : Byte
  pid : Byte
  len : BitVec 3
  pl  : Payload
deriving DecidableEq, Repr

/-- The reading group `RDG` (10_state.md R31). -/
structure RdgGroup where
  tag   : BitVec 2
  val   : BitVec 16
  known : Bool
deriving DecidableEq, Repr

/-- The per-query state `QST` (10_state.md R33). -/
inductive QState where
  | idle
  | awaitingResponse
  | decoded
  | failed
deriving DecidableEq, Repr

/-- A result slot `RES[k]` (10_state.md R34). -/
inductive Slot where
  | notAttempted
  | done (r : Result Reading)
deriving DecidableEq, Repr

/-- The three result slots (10_state.md R34). -/
structure Results where
  res0 : Slot
  res1 : Slot
  res2 : Slot
deriving DecidableEq, Repr

/-- The connection `CONN` (10_state.md R34). -/
inductive Conn where
  | closed
  | opened
deriving DecidableEq, Repr

/-- What `receive` answers (43_query_sequencer.md R152). -/
inductive RxAnswer where
  | frame (g : CanFrame)
  | timeout
  | failure
deriving DecidableEq, Repr

/-- What the last read transaction or transport call returned to the host (10_state.md R31, 30_encoding.md R82). -/
inductive Answer where
  | nothing
  | frame (f : Frame)
  | response (r : ObdResponse)
  | reading (g : RdgGroup)
  | status (v : StatWord)
  | command (c : CmdCode)
  | queryPid (p : Byte)
  | outcome (r : Result Reading)
  | results (r : Results)
  | sent (ok : Bool)
  | received (a : RxAnswer)
  | error (e : Error)
deriving DecidableEq, Repr

/-- One step of the host or of the sequencer (30_encoding.md R82, R83; 43_query_sequencer.md R151 to R164). -/
inductive Act where
  /-- `LDPID p`. -/
  | ldpid (p : Byte)
  /-- `LDFRM f`. -/
  | ldfrm (f : Frame)
  /-- A write of `CMD`, which executes the command at once. -/
  | cmd (c : CmdCode)
  /-- A frame word given to the block as an instruction word. -/
  | frame (w : FrameWord)
  | rdfrm
  | rdrsp
  | rdrdg
  | rdstat
  /-- A read of `CMD`, which reads back as last written (10_state.md R32). -/
  | rdcmd
  /-- A host write to `STAT`, ignored (10_state.md R32). -/
  | wrstat (v : StatWord)
  /-- A read of `QPID` (10_state.md R33). -/
  | rdqpid
  /-- A read of the result surface `RES[0..2]` (43_query_sequencer.md R165). -/
  | rdres
  /-- `SEND`: sends the frame last read by `RDFRM`. -/
  | send
  /-- `RECV`. -/
  | recv
  /-- The bus delivers an event between the host's steps (10_state.md R37; log entry 28). -/
  | arrive (e : RxEvent)
  /-- Opening and closing the connection (43_query_sequencer.md R164). -/
  | openConn
  | closeConn
  /-- The pseudo-instructions `encode_request(p)`, `decode_response(f, e)` and `decode(p, s)` (30_encoding.md R83). -/
  | encodeRequest (p : Byte)
  | decodeResponse (f : Frame) (e : Byte)
  | decodePid (p : Byte) (s : List Byte)
  /-- `QUERY p`, and the taking of its outcome by the caller (43_query_sequencer.md R150). -/
  | query (p : Byte)
  | takeOutcome
  /-- `SESSION`. -/
  | session
  /-- The sequencer's `send`, `receive` and classification, and on acceptance what it makes of the answer to `RDRDG`
and, on an error, of the answer to `RDSTAT` (43_query_sequencer.md R151, R154 to R156; 30_encoding.md R83). -/
  | seqSend
  | seqReceive
  | seqClassify
  | seqReading
  | seqFinish
  /-- The session's opening of the connection, its start of query k and the storing of its result (43_query_sequencer.md R161). -/
  | sessionOpen
  | sessionQuery (k : Fin 3)
  | sessionStore (k : Fin 3)
deriving DecidableEq, Repr

/-- The state. Only the last nine fields are not the block's or the sequencer's registers. -/
structure State where
  /-- The parameters of a run, written by no step (00_scope.md R7, 10_state.md R38). -/
  params    : Params
  /-- `PIDR` and `PV` (10_state.md R28). -/
  pidr      : Byte
  pv        : Bool
  /-- `FRM` and `FV` (10_state.md R29). -/
  frm       : Frame
  fv        : Bool
  /-- `RSP` and `RV` (10_state.md R30). -/
  rsp       : RspGroup
  rv        : Bool
  /-- `RDG` and `DV` (10_state.md R31). -/
  rdg       : RdgGroup
  dv        : Bool
  /-- `CMD` and `STAT` (10_state.md R32). -/
  cmd       : CmdCode
  stat      : StatWord
  /-- `QST`, `QPID`, `QOUT` (10_state.md R33). -/
  qst       : QState
  qpid      : Byte
  qout      : Result Reading
  /-- `SIX`, `RES`, `CONN` (10_state.md R34). -/
  six       : BitVec 2
  res       : Results
  conn      : Conn
  /-- `RXQ`, the transport's receive queue (10_state.md R37). -/
  rxq       : List RxEvent
  /-- The transport's given inputs for the sends to come; when it is empty the free inputs are used
  (43_query_sequencer.md R152; log entry 5). -/
  oracle    : List TransportInput
  oracleIx  : Nat
  /-- The given inputs for the openings of the connection to come; when it is empty the free values are used
  (93_implementation_defined.md U14, U16; log entries 15 and 27). -/
  opens     : List OpenInput
  /-- The frames the transport has accepted, oldest first (43_query_sequencer.md R151; log entry 5). -/
  sent      : List CanFrame
  /-- The frame last read by `RDFRM` (30_encoding.md R82): none before the first read. -/
  lastFrame : Option Frame
  answer    : Answer
  /-- The sequencer's pending micro steps, and the steps the host issues after them (log entry 7). -/
  seq       : List Act
  host      : List Act
  /-- The reset input, sampled at each step boundary (70_reset_and_hazards.md R210; log entry 18). -/
  rstIn     : List Bool
deriving DecidableEq, Repr

/-- Why the machine stops. No row of the opcode table raises one: they belong to host and sequencer steps to
which the spec gives no effect. All are safe: the model stops where the spec says nothing (log entry 14). -/
inductive Fault where
  /-- Raised by `query`, `seqSend`, `seqReceive`, `seqClassify`, `seqReading`, `seqFinish` in a `QST` for which
  43_query_sequencer.md R150 lists no transition. Safe. -/
  | noTransition
  /-- Raised by `query`, `send`, `recv`, `seqSend`, `seqReceive` while `CONN` is `Closed`
  (43_query_sequencer.md R164). Safe. -/
  | connectionClosed
  /-- Raised by `takeOutcome` and `sessionStore` while `QOUT` is undefined, and by `rdqpid` while no query is in
  progress (93_implementation_defined.md U15 asks for a fault). Safe. -/
  | undefinedRead
  /-- Raised by `send` and `seqSend` before any `RDFRM` (30_encoding.md R82 gives `SEND` no other frame). Safe. -/
  | nothingToSend
  /-- Raised by `seqClassify`, `seqReading` and `seqFinish` when the last read answered nothing they can use: no status,
  neither a reading nor `OperandInvalid`, no error in the status; no such answer follows the reads they stand behind
  (42_pid_decode.md R137). Safe. -/
  | noOutcome
  /-- Raised by the step when the host's list holds one of the sequencer's own micro steps, which no host can issue
  (30_encoding.md R82 lists the host's). Safe. -/
  | notHostStep
deriving DecidableEq, Repr

/-- Why a step is refused. -/
inductive Refusal where
  /-- Raised by an arm of `exec` whose instruction has no meaning yet. Safe. -/
  | notModelled (mnemonic : String)
  /-- Raised by `send` and `seqSend` on a frame with `DLC` 9 to 15, which is no `CanFrame`: the transport refuses
  it at its boundary (92_eei_decisions.md D28, 93_implementation_defined.md U12). Safe. -/
  | notCanFrame
  /-- Raised by `decodePid` with more than 4 payload bytes, which the wrapper cannot be given (30_encoding.md
  R83). Safe. -/
  | payloadTooLong
deriving DecidableEq, Repr

/-- Data bytes that hold no value yet: 0 (R40: a model may hold 0). DESIGN CHOICE: log entry 1, unsafe. -/
def noData : FrameData := ⟨0, 0, 0, 0, 0, 0, 0, 0⟩

/-- The machine right after reset (R40, R210). The data registers hold 0 (log entry 1), `QOUT` an error (log
entry 2), `PAD` and `RXQ` their free values (log entries 3 and 5). -/
def State.reset : State :=
  { params := Config.defaultsAt Config.freePad
    pidr := 0, pv := false
    frm := { id := 0, dlc := 0, data := noData }, fv := false
    rsp := { sid := 0, pid := 0, len := 0, pl := ⟨0, 0, 0, 0⟩ }, rv := false
    rdg := { tag := 0, val := 0, known := false }, dv := false
    cmd := 0, stat := 0
    qst := .idle, qpid := 0, qout := .err .timeoutError
    six := 0, res := ⟨.notAttempted, .notAttempted, .notAttempted⟩, conn := .closed
    rxq := Config.freeRxq, oracle := [], oracleIx := 0, opens := [], sent := []
    lastFrame := none, answer := .nothing
    seq := [], host := [], rstIn := [] }

end Sys2Proof.Machine
end

