-- ==== Sys2Proof/Machine/Operands.lean ====
section
/-! DEFINITION. The operand forms: byte sequences of the two buffers, bounded reads, and how each operand is taken from a frame or a group (30_encoding.md R74, 20_memory.md R50 to R56). -/

namespace Sys2Proof.Machine

/-- Data bytes 0 to 7, index 0 first (00_scope.md R9). -/
def dataBytes (d : FrameData) : List Byte := [d.d0, d.d1, d.d2, d.d3, d.d4, d.d5, d.d6, d.d7]

/-- `RSP.PL[0..3]`, index 0 first. -/
def plBytes (p : Payload) : List Byte := [p.pl0, p.pl1, p.pl2, p.pl3]

/-- `be([a, b])`, the big-endian value (00_scope.md R10, 20_memory.md R53). -/
def beValue (a b : Byte) : Nat := a.toNat * 256 + b.toNat

/-- `MemRead(a, n)` of the frame data buffer: defined only below the `DLC` (20_memory.md R52). -/
def CanFrame.memRead (f : CanFrame) (a n : Nat) : Option (List Byte) :=
  if a + n ≤ f.dlc.val then some (((dataBytes f.data).drop a).take n) else none

/-- Data byte `i`, present only when the `DLC` says it is a valid byte (20_memory.md R52, 41_frame_decode.md R112). -/
def CanFrame.byte? (f : CanFrame) (i : Nat) : Option Byte :=
  match CanFrame.memRead f i 1 with
  | some (b :: _) => some b
  | _ => none

/-- The payload `data[3 .. N]` with `N = data[0]`, of `N - 2` bytes (41_frame_decode.md R114). The read is a
defined one whenever the length byte is well formed. -/
def CanFrame.payload (f : CanFrame) : List Byte :=
  (CanFrame.memRead f 3 (f.data.d0.toNat - 2)).getD []

/-- The frame group as a `CanFrame`, when its `DLC` is at most 8 (41_frame_decode.md R116, R119). -/
def toCanFrame? (f : Frame) : Option CanFrame :=
  if h : f.dlc.toNat < 9 then some { arbitrationId := f.id, dlc := ⟨f.dlc.toNat, h⟩, data := f.data } else none

/-- A `CanFrame` as the frame group's contents (10_state.md R29). -/
def CanFrame.toFrame (f : CanFrame) : Frame :=
  { id := f.arbitrationId, dlc := BitVec.ofNat 4 f.dlc.val, data := f.data }

/-- `RSP.PL[0 .. RSP.LEN-1]` (42_pid_decode.md R137). -/
def RspGroup.payload (r : RspGroup) : List Byte := (plBytes r.pl).take r.len.toNat

/-- `PL[0 .. LEN-1] <- payload`; the other bytes hold no value and are left alone (10_state.md R30; log entry 12). -/
def Payload.write (old : Payload) (s : List Byte) : Payload :=
  { pl0 := s[0]?.getD old.pl0, pl1 := s[1]?.getD old.pl1, pl2 := s[2]?.getD old.pl2, pl3 := s[3]?.getD old.pl3 }

/-- `RSP <- r` (41_frame_decode.md R116). -/
def RspGroup.write (old : RspGroup) (r : ObdResponse) : RspGroup :=
  { sid := r.serviceId, pid := r.pid, len := BitVec.ofNat 3 r.payload.length, pl := old.pl.write r.payload }

/-- The `ObdResponse` the response group holds (10_state.md R30). -/
def RspGroup.response (r : RspGroup) : ObdResponse :=
  { serviceId := r.sid, pid := r.pid, payload := r.payload }

/-- The reading group of a reading, `a` being `RSP.PL[0]` (42_pid_decode.md R137). -/
def RdgGroup.ofReading (v : Reading) (a : Byte) : RdgGroup :=
  match v with
  | .obdStandard c k => { tag := 1, val := c.setWidth 16, known := k }
  | .fuelLevelPercent _ => { tag := 2, val := 100 * a.setWidth 16, known := false }
  | .runtimeSeconds n => { tag := 3, val := BitVec.ofNat 16 n, known := false }

/-- The reading a group holds, by its tag; the fuel value is `VAL / 255` (10_state.md R31). -/
def RdgGroup.reading? (g : RdgGroup) : Option Reading :=
  if g.tag = 1 then some (.obdStandard (g.val.extractLsb' 0 8) g.known)
  else if g.tag = 2 then some (.fuelLevelPercent ((g.val.toNat : Rat) / 255))
  else if g.tag = 3 then some (.runtimeSeconds g.val.toNat)
  else none

end Sys2Proof.Machine
end

