-- ==== Sys2Proof/Machine/Flags.lean ====
section
/-! DEFINITION. The four condition flags, the layout of `STAT` and the numeric codes (10_state.md R32, R35; 41_frame_decode.md R112; 60_exceptions.md R181). -/

namespace Sys2Proof.Machine

/-- The four check flags (10_state.md R35). -/
structure CheckFlags where
  idOk  : Bool
  lenOk : Bool
  svcOk : Bool
  pidOk : Bool
deriving DecidableEq, Repr

/-- `CHK = 0`, written by `ENC`, `DECP` and by every `OperandInvalid` (10_state.md R32). -/
def noFlags : CheckFlags := ⟨false, false, false, false⟩

/-- `CHK = 0b1111`. -/
def allFlags : CheckFlags := ⟨true, true, true, true⟩

/-- The length byte is well formed: `2 <= N <= 6` and `N <= DLC - 1` (30_encoding.md R77). -/
def lengthOk (dlc : Nat) (n : Byte) : Bool :=
  decide (2 ≤ n.toNat) && decide (n.toNat ≤ 2 + Config.maxPayload) && decide (n.toNat ≤ dlc - 1)

/-- `Checks(f, e)` (41_frame_decode.md R112): all four are always computed, and a byte is read only when the
`DLC` says it is valid. -/
def checks (f : CanFrame) (e : Byte) : CheckFlags :=
  { idOk := idInRange f.arbitrationId
    lenOk := match CanFrame.byte? f 0 with
      | some n => lengthOk f.dlc.val n
      | none => false
    svcOk := CanFrame.byte? f 1 == some Config.sidRsp
    pidOk := CanFrame.byte? f 2 == some e }

/-- `STAT.OP`: the command that wrote `STAT` (10_state.md R32). -/
inductive Command where
  | enc
  | decf
  | decp
deriving DecidableEq, Repr

/-- The code in `STAT.OP`. -/
def Command.code : Command → BitVec 2
  | .enc => 1
  | .decf => 2
  | .decp => 3

/-- `KIND` codes (60_exceptions.md R181). -/
def CheckKind.code : CheckKind → BitVec 2
  | .wrongArbitrationId => 0
  | .malformedLength => 1
  | .wrongService => 2
  | .pidMismatch => 3

/-- `ERR` codes (60_exceptions.md R181). -/
def Error.code : Error → BitVec 3
  | .rangeError => 1
  | .protocolError _ => 2
  | .decodeError => 3
  | .unsupportedPid => 4
  | .operandInvalid => 5
  | .timeoutError => 6
  | .transportError => 7

/-- `STAT.KIND`, written 0 when `ERR` is not 2 (10_state.md R32). -/
def Error.kindCode : Error → BitVec 2
  | .protocolError k => k.code
  | _ => 0

/-- `STAT.CHK`: `id_ok` in `STAT[5]` up to `pid_ok` in `STAT[8]` (41_frame_decode.md R116). -/
def CheckFlags.bits (f : CheckFlags) : BitVec 4 :=
  BitVec.ofBool f.pidOk ++ BitVec.ofBool f.svcOk ++ BitVec.ofBool f.lenOk ++ BitVec.ofBool f.idOk

/-- `STAT` from its four fields (10_state.md R32). -/
def statWord (op : BitVec 2) (chk : BitVec 4) (kind : BitVec 2) (err : BitVec 3) : StatWord :=
  op ++ chk ++ kind ++ err

/-- `STAT` of a command that succeeded. -/
def statOk (c : Command) (f : CheckFlags) : StatWord := statWord c.code f.bits 0 0

/-- `STAT` of a command that raised an error. -/
def statErr (c : Command) (f : CheckFlags) (e : Error) : StatWord := statWord c.code f.bits e.kindCode e.code

/-- `STAT.ERR`, bits [2:0]. -/
def errField (v : StatWord) : BitVec 3 := v.extractLsb' 0 3
/-- `STAT.KIND`, bits [4:3]. -/
def kindField (v : StatWord) : BitVec 2 := v.extractLsb' 3 2
/-- `STAT.CHK`, bits [8:5]. -/
def chkField (v : StatWord) : BitVec 4 := v.extractLsb' 5 4
/-- `STAT.OP`, bits [10:9]. -/
def opField (v : StatWord) : BitVec 2 := v.extractLsb' 9 2

/-- The four flags as read from `STAT.CHK` (43_query_sequencer.md R155). -/
def flagsOfStat (v : StatWord) : CheckFlags :=
  { idOk := v.getLsbD 5, lenOk := v.getLsbD 6, svcOk := v.getLsbD 7, pidOk := v.getLsbD 8 }

/-- The check kind of a `KIND` code (60_exceptions.md R181). -/
def kindOfCode (k : BitVec 2) : CheckKind :=
  if k = 0 then .wrongArbitrationId
  else if k = 1 then .malformedLength
  else if k = 2 then .wrongService
  else .pidMismatch

/-- The error `STAT` reports, none when `ERR` is 0 (60_exceptions.md R181). -/
def errorOfStat (v : StatWord) : Option Error :=
  if errField v = 0 then none
  else if errField v = 1 then some .rangeError
  else if errField v = 2 then some (.protocolError (kindOfCode (kindField v)))
  else if errField v = 3 then some .decodeError
  else if errField v = 4 then some .unsupportedPid
  else if errField v = 5 then some .operandInvalid
  else if errField v = 6 then some .timeoutError
  else some .transportError

end Sys2Proof.Machine
end

