-- ==== Sys2Proof/Machine/Codec.lean ====
section
/-! DEFINITION. The three pure functions of the block: `EncodeRequest`, `DecodeResponse`, `DecodePid` (00_scope.md R6). -/

namespace Sys2Proof.Machine

/-- `EncodeRequest(pid)` (40_frame_encode.md R100, R103): fails only outside 0..255. -/
def encodeRequest (p : Params) (pid : Int) : Result CanFrame :=
  if pid < 0 ∨ pid > 255 then .err .rangeError
  else
    .ok { arbitrationId := Config.reqId, dlc := 8,
          data := { d0 := Config.reqLen, d1 := Config.sidReq, d2 := BitVec.ofInt 8 pid, d3 := p.pad,
                    d4 := p.pad, d5 := p.pad, d6 := p.pad, d7 := p.pad } }

/-- Which error is reported: the first check that fails in the listed order (41_frame_decode.md R113). -/
def firstFailure (f : CheckFlags) : Option CheckKind :=
  if !f.idOk then some .wrongArbitrationId
  else if !f.lenOk then some .malformedLength
  else if !f.svcOk then some .wrongService
  else if !f.pidOk then some .pidMismatch
  else none

/-- `DecodeResponse(frame, expected_pid)` (41_frame_decode.md R110). -/
def decodeResponse (f : CanFrame) (e : Byte) : Result ObdResponse :=
  match firstFailure (checks f e) with
  | some k => .err (.protocolError k)
  | none => .ok { serviceId := f.data.d1, pid := f.data.d2, payload := CanFrame.payload f }

/-- Is a code in `STD_TABLE` (42_pid_decode.md R134). -/
def knownCode (p : Params) (c : Byte) : Bool := p.stdTable.any fun e => e.code == c

/-- The exact fuel value `100 * A / 255` with the source's clamp to [0, 100] (42_pid_decode.md R135). -/
def fuelPercent (a : Byte) : Rat := min (max (100 * (a.toNat : Rat) / 255) 0) 100

/-- The formula of a kind on a payload; `DecodeError` exactly when the payload is shorter than `NEED(kind)`
(42_pid_decode.md R133 to R136, R138). -/
def decodeAs (p : Params) : PidKind → List Byte → Result Reading
  | .standard, a :: _ => .ok (.obdStandard a (knownCode p a))
  | .fuel, a :: _ => .ok (.fuelLevelPercent (fuelPercent a))
  | .runtime, a :: b :: _ => .ok (.runtimeSeconds (beValue a b))
  | _, _ => .err .decodeError

/-- `DecodePid(pid, payload)` (42_pid_decode.md R130): the pid is looked up before the payload (R132). -/
def decodePid (p : Params) (pid : Byte) (s : List Byte) : Result Reading :=
  match p.kindOf pid with
  | none => .err .unsupportedPid
  | some k => decodeAs p k s

end Sys2Proof.Machine
end

