-- ==== Sys2Proof/Machine/Ops.lean ====
section
/-! DEFINITION. The named operations over the state: loads, reads, downstream invalidation, raising an error, the transport and reset. -/

namespace Sys2Proof.Machine

/-- Downstream invalidation of an upstream write: `RV <- 0`, `DV <- 0` (10_state.md R36). -/
def State.invalidate (s : State) : State := { s with rv := false, dv := false }

/-- `LDPID(p)` (10_state.md R28). -/
def State.ldPid (s : State) (p : Byte) : State := { s.invalidate with pidr := p, pv := true }

/-- `LDFRM(f)` (10_state.md R29). -/
def State.ldFrm (s : State) (f : Frame) : State := { s.invalidate with frm := f, fv := true }

/-- The write of `CMD` itself; it reads back as the last value written (10_state.md R32). -/
def State.writeCmd (s : State) (c : CmdCode) : State := { s with cmd := c }

/-- Entering an error: the block's `raise E` (60_exceptions.md R186, 00_scope.md R10, 10_state.md R36). `STAT` is
written, the valid bit of the command's result group (`FV`, `RV`, `DV`) and those downstream of it are cleared, operand
groups are untouched, nothing is saved and control goes nowhere. There is no return to pair with it (60_exceptions.md
R189). -/
def State.raise (s : State) (c : Command) (f : CheckFlags) (e : Error) : State :=
  match c with
  | .enc => { s with fv := false, rv := false, dv := false, stat := statErr .enc f e }
  | .decf => { s with rv := false, dv := false, stat := statErr .decf f e }
  | .decp => { s with dv := false, stat := statErr .decp f e }

/-- `FRM <- f; FV <- 1` by `ENC` (40_frame_encode.md R101). -/
def State.putRequest (s : State) (f : CanFrame) : State :=
  { s with frm := CanFrame.toFrame f, fv := true, rv := false, dv := false, stat := statOk .enc noFlags }

/-- `RSP <- r; RV <- 1` by `DECF` (41_frame_decode.md R116). -/
def State.putResponse (s : State) (r : ObdResponse) : State :=
  { s with rsp := s.rsp.write r, rv := true, dv := false, stat := statOk .decf allFlags }

/-- `RDG <- v; DV <- 1` by `DECP` (42_pid_decode.md R137). -/
def State.putReading (s : State) (v : Reading) : State :=
  { s with rdg := RdgGroup.ofReading v s.rsp.pl.pl0, dv := true, stat := statOk .decp noFlags }

/-- `ENC` with `PV = 0`, in its rule's own lines, which leave `FRM` and `FV` as they were (40_frame_encode.md R101,
10_state.md R36). DEDUCED: these lines hold where 60_exceptions.md R186 would clear `FV` (log entry 10, unsafe). -/
def State.encNoOperand (s : State) : State :=
  { s with rv := false, dv := false, stat := statErr .enc noFlags .operandInvalid }

/-- What the command `ENC` does (40_frame_encode.md R101); `EncodeRequest` raises nothing on a byte (R103). -/
def State.runEnc (s : State) : State :=
  if s.pv then
    match encodeRequest s.params s.pidr.toNat with
    | .ok f => s.putRequest f
    | .err e => s.raise .enc noFlags e
  else s.encNoOperand

/-- The flags of a group whose `DLC` is 9 to 15: `id_ok` only (41_frame_decode.md R119). -/
def oversizeFlags (id : ArbId) : CheckFlags := { noFlags with idOk := idInRange id }

/-- What the command `DECF` does (41_frame_decode.md R116, R119). -/
def State.runDecf (s : State) : State :=
  if s.fv && s.pv then
    match toCanFrame? s.frm with
    | none =>
      s.raise .decf (oversizeFlags s.frm.id)
        (.protocolError (if idInRange s.frm.id then .malformedLength else .wrongArbitrationId))
    | some f =>
      match decodeResponse f s.pidr with
      | .ok r => s.putResponse r
      | .err e => s.raise .decf (checks f s.pidr) e
  else s.raise .decf noFlags .operandInvalid

/-- The end of `DECP` on the PID Decoder's outcome (42_pid_decode.md R137). -/
def State.finishDecp (s : State) : Result Reading → State
  | .ok v => s.putReading v
  | .err e => s.raise .decp noFlags e

/-- What the command `DECP` does (42_pid_decode.md R137). -/
def State.runDecp (s : State) : State :=
  if s.rv then s.finishDecp (decodePid s.params s.rsp.pid s.rsp.payload)
  else s.raise .decp noFlags .operandInvalid

/-- `DECP` with its formula already selected (30_encoding.md R81). -/
def State.runDecpAs (s : State) (k : PidKind) : State :=
  if s.rv then s.finishDecp (decodeAs s.params k s.rsp.payload)
  else s.raise .decp noFlags .operandInvalid

/-- The block builds the request frame of a pid (30_encoding.md R72, R83): `LDPID p ; ENC`. -/
def State.buildRequest (s : State) (p : Byte) : State := ((s.ldPid p).writeCmd 1).runEnc

/-- The block recognises a frame (30_encoding.md R73, R83): `LDFRM f ; DECF`. -/
def State.recognise (s : State) (f : Frame) : State := ((s.ldFrm f).writeCmd 2).runDecf

/-- A frame taken to its reading: `LDFRM f ; DECF`, and `DECP` when it is accepted (30_encoding.md R76, R78, R83). -/
def State.interpret (s : State) (f : Frame) : State :=
  if (s.recognise f).rv then ((s.recognise f).writeCmd 3).runDecp else s.recognise f

/-- `RDFRM`: the frame, also kept as the frame last read; `OperandInvalid` when `FV` is 0 (10_state.md R31). -/
def State.rdFrm (s : State) : State :=
  if s.fv then { s with answer := .frame s.frm, lastFrame := some s.frm } else { s with answer := .error .operandInvalid }

/-- `RDRSP` (10_state.md R30, R31). -/
def State.rdRsp (s : State) : State :=
  if s.rv then { s with answer := .response s.rsp.response } else { s with answer := .error .operandInvalid }

/-- `RDRDG` (10_state.md R31). -/
def State.rdRdg (s : State) : State :=
  if s.dv then { s with answer := .reading s.rdg } else { s with answer := .error .operandInvalid }

/-- `RDSTAT` (10_state.md R32). -/
def State.rdStat (s : State) : State := { s with answer := .status s.stat }

/-- A read of `CMD` (10_state.md R32). -/
def State.rdCmd (s : State) : State := { s with answer := .command s.cmd }

/-- The oracle's inputs for the next send: the given ones first, then the free ones (43_query_sequencer.md R152;
log entry 5). -/
def State.nextInput (s : State) : TransportInput :=
  match s.oracle with
  | o :: _ => o
  | [] => Config.freeInput s.oracleIx

/-- Moving past the inputs `State.nextInput` gave. -/
def State.dropInput (s : State) : State :=
  match s.oracle with
  | _ :: os => { s with oracle := os }
  | [] => { s with oracleIx := s.oracleIx + 1 }

/-- The inputs of the next opening of the connection: the given ones first, then the free ones
(93_implementation_defined.md U14, U16; log entries 15 and 27). -/
def State.nextOpen (s : State) : OpenInput :=
  match s.opens with
  | b :: _ => b
  | [] => Config.freeOpen s.oracleIx

/-- Moving past the inputs `State.nextOpen` gave. -/
def State.dropOpen (s : State) : State :=
  match s.opens with
  | _ :: bs => { s with opens := bs }
  | [] => { s with oracleIx := s.oracleIx + 1 }

/-- Opening the connection (43_query_sequencer.md R164). When it succeeds `CONN` is `Open` and `RXQ` holds what the
transport says it does (93_implementation_defined.md U14: any value; log entry 27). When it fails `CONN` is `Closed` and
the caller is answered `TransportError` (U16; log entry 15). DESIGN CHOICE: a connection that is already open is opened
again, and is closed when that fails (log entry 29, unsafe). -/
def State.openConnection (s : State) : State :=
  if s.nextOpen.ok then { s.dropOpen with conn := .opened, rxq := s.nextOpen.queue }
  else { s.dropOpen with conn := .closed, answer := .error .transportError }

/-- Closing the connection: `CONN <- Closed` (43_query_sequencer.md R161, R164). DESIGN CHOICE: the spec says nothing of
closing a connection that is already `Closed`; it goes through and `CONN` stays `Closed` (log entry 33, unsafe). -/
def State.closeConnection (s : State) : State := { s with conn := .closed }

/-- The bus delivers an event, which `receive` answers after those already in `RXQ` (10_state.md R37). DESIGN CHOICE:
otherwise `RXQ` keeps what it holds between two queries and across reset (log entry 28, unsafe). -/
def State.arrive (s : State) (e : RxEvent) : State := { s with rxq := s.rxq ++ [e] }

/-- `send(g)`: on success the frame is on the bus and the query's event list begins; on failure nothing is
(43_query_sequencer.md R151, R152; log entry 6). -/
def State.transportSend (s : State) (g : CanFrame) : State :=
  if s.nextInput.sendOk then
    { s.dropInput with sent := s.sent ++ [g], rxq := s.nextInput.events, answer := .sent true }
  else { s.dropInput with answer := .sent false }

/-- What `receive` answers next; when the list is used up, `timeout` (43_query_sequencer.md R152, R157). -/
def State.nextRx (s : State) : RxAnswer :=
  match s.rxq with
  | [] => .timeout
  | .failure :: _ => .failure
  | .frame g :: _ => .frame g

/-- `receive`: removes the event it returns from `RXQ` (20_memory.md R55); outside a query that is what is left of
the last query's events and what has arrived since (log entry 28). -/
def State.transportReceive (s : State) : State := { s with rxq := s.rxq.tail, answer := .received s.nextRx }

/-- Reset, applied between two steps (70_reset_and_hazards.md R210, 10_state.md R40): everything at its reset value
but the parameters, the transport, what the host issues next and the reset input (log entry 18). -/
def State.applyReset (s : State) : State :=
  { State.reset with
    params := s.params, rxq := s.rxq, oracle := s.oracle, oracleIx := s.oracleIx, opens := s.opens,
    sent := s.sent, host := s.host, rstIn := s.rstIn }

end Sys2Proof.Machine
end

