-- ==== Sys2Proof/Machine/Command.lean ====
section
/-! DEFINITION. The command rows `NOP`, `ENC`, `DECF`, `DECP` (30_encoding.md R80). The write of `CMD` that issues a command is the step's (10_state.md R32; log entry 11). -/

namespace Sys2Proof.Machine

/-- `NOP` (40_frame_encode.md R104): no register, no valid bit and not `STAT`. -/
def execNop (s : State) : Host.Outcome State Fault Refusal := .next s

/-- `ENC` (40_frame_encode.md R101). -/
def execEnc (s : State) : Host.Outcome State Fault Refusal := .next s.runEnc

/-- `DECF` (41_frame_decode.md R116). -/
def execDecf (s : State) : Host.Outcome State Fault Refusal := .next s.runDecf

/-- `DECP` (42_pid_decode.md R137). -/
def execDecp (s : State) : Host.Outcome State Fault Refusal := .next s.runDecp

end Sys2Proof.Machine
end

