-- ==== Sys2Proof/Machine/Request.lean ====
section
/-! DEFINITION. The request rows (30_encoding.md R72, R75): frames the block builds and never decodes. Executing one is building it (log entry 8). -/

namespace Sys2Proof.Machine

/-- `REQ` (30_encoding.md R72). -/
def execReq (pid : Byte) (s : State) : Host.Outcome State Fault Refusal := .next (s.buildRequest pid)

/-- `REQ.STD` (30_encoding.md R75). -/
def execReqStd (s : State) : Host.Outcome State Fault Refusal := .next (s.buildRequest (s.params.pidOf .standard))

/-- `REQ.FUEL` (30_encoding.md R75). -/
def execReqFuel (s : State) : Host.Outcome State Fault Refusal := .next (s.buildRequest (s.params.pidOf .fuel))

/-- `REQ.RUNTIME` (30_encoding.md R75). -/
def execReqRuntime (s : State) : Host.Outcome State Fault Refusal := .next (s.buildRequest (s.params.pidOf .runtime))

end Sys2Proof.Machine
end

