-- ==== Sys2Proof/Machine/Response.lean ====
section
/-! DEFINITION. The response rows (30_encoding.md R73, R76): frames the block recognises and never builds. Executing one is taking the received frame through `DECF`, and for the three rows that decode to a reading through `DECP` (log entry 8). -/

namespace Sys2Proof.Machine

/-- `RSP` (30_encoding.md R73). -/
def execRsp (pid : Byte) (f : RspFields) (s : State) : Host.Outcome State Fault Refusal :=
  .next (s.recognise (responseFrame pid f))

/-- `RSP.STD` (30_encoding.md R76). -/
def execRspStd (f : RspFields) (s : State) : Host.Outcome State Fault Refusal :=
  .next (s.interpret (responseFrame (s.params.pidOf .standard) f))

/-- `RSP.FUEL` (30_encoding.md R76). -/
def execRspFuel (f : RspFields) (s : State) : Host.Outcome State Fault Refusal :=
  .next (s.interpret (responseFrame (s.params.pidOf .fuel) f))

/-- `RSP.RUNTIME` (30_encoding.md R76). -/
def execRspRuntime (f : RspFields) (s : State) : Host.Outcome State Fault Refusal :=
  .next (s.interpret (responseFrame (s.params.pidOf .runtime) f))

end Sys2Proof.Machine
end

