-- ==== Sys2Proof/Machine/Select.lean ====
section
/-! DEFINITION. The selector rows of `DECP` (30_encoding.md R81): `DECP` with its formula selected by the pid byte in `RSP.PID` (log entry 9). -/

namespace Sys2Proof.Machine

/-- `DECP.STD` (42_pid_decode.md R134). -/
def execDecpStd (s : State) : Host.Outcome State Fault Refusal := .next (s.runDecpAs .standard)

/-- `DECP.FUEL` (42_pid_decode.md R135). -/
def execDecpFuel (s : State) : Host.Outcome State Fault Refusal := .next (s.runDecpAs .fuel)

/-- `DECP.RUNTIME` (42_pid_decode.md R136). -/
def execDecpRuntime (s : State) : Host.Outcome State Fault Refusal := .next (s.runDecpAs .runtime)

end Sys2Proof.Machine
end

