-- ==== Sys2Proof/Machine/Dispatch.lean ====
section
/-! DEFINITION. The dispatch of instructions to their meanings, one arm per row of the opcode table. -/

namespace Sys2Proof.Machine

def exec (i : Instr) (s : State) : Host.Outcome State Fault Refusal :=
  match i with
  | .nop => Sys2Proof.Machine.execNop s
  | .enc => Sys2Proof.Machine.execEnc s
  | .decf => Sys2Proof.Machine.execDecf s
  | .decp => Sys2Proof.Machine.execDecp s
  | .decpStd => Sys2Proof.Machine.execDecpStd s
  | .decpFuel => Sys2Proof.Machine.execDecpFuel s
  | .decpRuntime => Sys2Proof.Machine.execDecpRuntime s
  | .req pid => Sys2Proof.Machine.execReq pid s
  | .reqStd => Sys2Proof.Machine.execReqStd s
  | .reqFuel => Sys2Proof.Machine.execReqFuel s
  | .reqRuntime => Sys2Proof.Machine.execReqRuntime s
  | .rsp pid f => Sys2Proof.Machine.execRsp pid f s
  | .rspStd f => Sys2Proof.Machine.execRspStd f s
  | .rspFuel f => Sys2Proof.Machine.execRspFuel f s
  | .rspRuntime f => Sys2Proof.Machine.execRspRuntime f s

end Sys2Proof.Machine
end

