-- ==== Sys2Proof/Machine/Sequencer.lean ====
section
/-! DEFINITION. The sequencer as functions (43_query_sequencer.md R154, R155, R161) and as the micro steps that issue commands to the block, call the transport and walk `QST` (R150, R151). -/

namespace Sys2Proof.Machine

/-- What the sequencer makes of a received frame (43_query_sequencer.md R155). -/
inductive Verdict where
  | skip
  | fail (k : CheckKind)
  | accept
deriving DecidableEq, Repr

/-- `Classify`, from the four flags (43_query_sequencer.md R155). -/
def classify (f : CheckFlags) : Verdict :=
  if !f.idOk then .skip
  else if f.lenOk && f.svcOk && f.pidOk then .accept
  else if !f.pidOk then .skip
  else if !f.lenOk then .fail .malformedLength
  else .fail .wrongService

/-- `Await(p, L)` (43_query_sequencer.md R154): the first frame that is accepted or fails ends the query (R158). -/
def awaitAnswer (ps : Params) (p : Byte) : List RxEvent → Result Reading
  | [] => .err .timeoutError
  | .failure :: _ => .err .transportError
  | .frame g :: rest =>
    match classify (checks g p) with
    | .skip => awaitAnswer ps p rest
    | .fail k => .err (.protocolError k)
    | .accept =>
      match decodeResponse g p with
      | .ok r => decodePid ps r.pid r.payload
      | .err e => .err e

/-- `query(p)` on the oracle's inputs (43_query_sequencer.md R154). -/
def queryResult (ps : Params) (p : Byte) (o : TransportInput) : Result Reading :=
  if o.sendOk then awaitAnswer ps p o.events else .err .transportError

/-- The kind queried k-th in a session (43_query_sequencer.md R161). -/
def sessionKind : Fin 3 → PidKind
  | 0 => .standard
  | 1 => .fuel
  | 2 => .runtime

/-- The result slots before a session's first query (10_state.md R34; log entry 13). -/
def noResults : Results := ⟨.notAttempted, .notAttempted, .notAttempted⟩

/-- `RES[k] <- r` (43_query_sequencer.md R161). -/
def Results.store (r : Results) (k : Fin 3) (v : Result Reading) : Results :=
  match k with
  | 0 => { r with res0 := .done v }
  | 1 => { r with res1 := .done v }
  | 2 => { r with res2 := .done v }

/-- The results and the final `SIX` of a session on the oracle's inputs of its three queries
(43_query_sequencer.md R161, R163). -/
def sessionResult (ps : Params) (o0 o1 o2 : TransportInput) : Results × BitVec 2 :=
  let q0 := queryResult ps (ps.pidOf .standard) o0
  let q1 := queryResult ps (ps.pidOf .fuel) o1
  let q2 := queryResult ps (ps.pidOf .runtime) o2
  if q0 = .err .transportError then (⟨.done q0, .notAttempted, .notAttempted⟩, 0)
  else if q1 = .err .transportError then (⟨.done q0, .done q1, .notAttempted⟩, 1)
  else if q2 = .err .transportError then (⟨.done q0, .done q1, .done q2⟩, 2)
  else (⟨.done q0, .done q1, .done q2⟩, 3)

/-- The instruction a write of `CMD` issues: `DECP` selects its formula by the byte in `RSP.PID` when `RSP` is
valid (30_encoding.md R80, R81; log entry 9). -/
def State.fetch (s : State) (c : CmdCode) : Instr :=
  match decodeCmd c with
  | .decp =>
    if s.rv then
      match decodeSel s.params s.rsp.pid with
      | .ok i => i
      | .error _ => .decp
    else .decp
  | i => i

/-- The write of `CMD`, which executes the command at once (10_state.md R32). -/
def actCmd (c : CmdCode) (s : State) : Host.Outcome State Fault Refusal := exec (s.fetch c) (s.writeCmd c)

/-- A frame word given to the block: its row of the opcode table runs; a word that is no row is still a frame the
block loads and classifies (30_encoding.md R78; log entries 8 and 21). -/
def actFrame (w : FrameWord) (s : State) : Host.Outcome State Fault Refusal :=
  match decode s.params (.frame w) with
  | .ok i => exec i s
  | .error _ => .next (s.recognise (Frame.unpack w))

/-- Putting micro steps in front of the sequencer's pending ones. -/
def State.push (s : State) (as : List Act) : State := { s with seq := as ++ s.seq }

/-- `SEND` of the frame last read by `RDFRM` (30_encoding.md R82), followed by `k` on the transport's answer. -/
def sendThen (s : State) (k : Bool → State → State) : Host.Outcome State Fault Refusal :=
  match s.conn with
  | .closed => .fault .connectionClosed
  | .opened =>
    match s.lastFrame with
    | none => .fault .nothingToSend
    | some f =>
      match toCanFrame? f with
      | none => .refused .notCanFrame
      | some g => .next (k s.nextInput.sendOk (s.transportSend g))

/-- `SEND` by a host that drives the block itself. -/
def actSend (s : State) : Host.Outcome State Fault Refusal := sendThen s fun _ t => t

/-- `RECV` by a host that drives the block itself (30_encoding.md R82). -/
def actRecv (s : State) : Host.Outcome State Fault Refusal :=
  match s.conn with
  | .closed => .fault .connectionClosed
  | .opened => .next s.transportReceive

/-- The end of a query: `QST` is `Decoded` on a reading and `Failed` on an error (43_query_sequencer.md R150, R154). -/
def State.endQuery (s : State) (r : Result Reading) : State :=
  match r with
  | .ok v => { s with qst := .decoded, qout := .ok v }
  | .err e => { s with qst := .failed, qout := .err e }

/-- `QUERY p`: `Start(p)` up to its `send` (43_query_sequencer.md R151): requires `QST = Idle` and `CONN = Open`. -/
def actQuery (p : Byte) (s : State) : Host.Outcome State Fault Refusal :=
  match s.conn, s.qst with
  | .closed, _ => .fault .connectionClosed
  | .opened, .idle => .next ({ s with qpid := p }.push [.ldpid p, .cmd 1, .rdfrm, .seqSend])
  | .opened, _ => .fault .noTransition

/-- The `send` of `Start(p)` (43_query_sequencer.md R151). -/
def actSeqSend (s : State) : Host.Outcome State Fault Refusal :=
  match s.qst with
  | .idle =>
    sendThen s fun ok t =>
      if ok then { t with qst := .awaitingResponse }.push [.seqReceive] else t.endQuery (.err .transportError)
  | _ => .fault .noTransition

/-- One `receive` of the loop (43_query_sequencer.md R153, R154, R157). -/
def actSeqReceive (s : State) : Host.Outcome State Fault Refusal :=
  match s.conn, s.qst with
  | .closed, _ => .fault .connectionClosed
  | .opened, .awaitingResponse =>
    match s.nextRx with
    | .timeout => .next (s.transportReceive.endQuery (.err .timeoutError))
    | .failure => .next (s.transportReceive.endQuery (.err .transportError))
    | .frame g =>
      .next (s.transportReceive.push [.ldfrm (CanFrame.toFrame g), .cmd 2, .rdstat, .seqClassify])
  | .opened, _ => .fault .noTransition

/-- Classification of the frame just decoded, from `STAT.CHK` as `RDSTAT` answered it (43_query_sequencer.md R155). -/
def actSeqClassify (s : State) : Host.Outcome State Fault Refusal :=
  match s.qst, s.answer with
  | .awaitingResponse, .status v =>
    match classify (flagsOfStat v) with
    | .skip => .next (s.push [.seqReceive])
    | .fail k => .next (s.endQuery (.err (.protocolError k)))
    | .accept => .next (s.push [.cmd 3, .rdrdg, .seqReading])
  | .awaitingResponse, _ => .fault .noOutcome
  | _, _ => .fault .noTransition

/-- What follows `DECP ; RDRDG` on acceptance (43_query_sequencer.md R156, 30_encoding.md R83): a reading ends the
query, and `OperandInvalid`, by which the sequencer learns of the error (60_exceptions.md R186), is followed by
`RDSTAT`. DEDUCED: log entry 32, safe. -/
def actSeqReading (s : State) : Host.Outcome State Fault Refusal :=
  match s.qst, s.answer with
  | .awaitingResponse, .reading g =>
    match g.reading? with
    | some v => .next (s.endQuery (.ok v))
    | none => .fault .noOutcome
  | .awaitingResponse, .error .operandInvalid => .next (s.push [.rdstat, .seqFinish])
  | .awaitingResponse, _ => .fault .noOutcome
  | _, _ => .fault .noTransition

/-- The end of an accepted query whose `DECP` raised an error: the one in the `STAT` that `RDSTAT` answered
(43_query_sequencer.md R156). -/
def actSeqFinish (s : State) : Host.Outcome State Fault Refusal :=
  match s.qst, s.answer with
  | .awaitingResponse, .status v =>
    match errorOfStat v with
    | some e => .next (s.endQuery (.err e))
    | none => .fault .noOutcome
  | .awaitingResponse, _ => .fault .noOutcome
  | _, _ => .fault .noTransition

/-- Is `QOUT` defined (10_state.md R33). -/
def State.qoutDefined (s : State) : Bool := s.qst == .decoded || s.qst == .failed

/-- The outcome is taken by the caller and `QST` returns to `Idle` (43_query_sequencer.md R150, R154). -/
def actTakeOutcome (s : State) : Host.Outcome State Fault Refusal :=
  if s.qoutDefined then .next { s with qst := .idle, answer := .outcome s.qout } else .fault .undefinedRead

/-- A read of `QPID`, the pid of the query in progress (10_state.md R33). DESIGN CHOICE: a query is in progress from its
send until its outcome is taken, so `QPID` is defined in every `QST` but `Idle`, where the read faults
(93_implementation_defined.md U15; log entry 25, unsafe). -/
def actRdQpid (s : State) : Host.Outcome State Fault Refusal :=
  match s.qst with
  | .idle => .fault .undefinedRead
  | _ => .next { s with answer := .queryPid s.qpid }

/-- `SESSION`: the slots of queries that have not run are `NotAttempted`, and the connection is opened
(43_query_sequencer.md R161; log entry 13). DESIGN CHOICE: `QST` is not looked at here, so with an earlier outcome
still untaken the session stops only at its first query, the connection open, and not at all when the open fails (log
entry 30, unsafe). -/
def actSession (s : State) : Host.Outcome State Fault Refusal :=
  .next ({ s with res := noResults }.push [.sessionOpen])

/-- The opening of the session's connection, and query 0 when it succeeds; when it fails the session ends with
`TransportError` and every slot `NotAttempted` (93_implementation_defined.md U16; log entry 15). -/
def actSessionOpen (s : State) : Host.Outcome State Fault Refusal :=
  if s.nextOpen.ok then .next (s.openConnection.push [.sessionQuery 0]) else .next s.openConnection

/-- `SIX <- k` and the start of query k (43_query_sequencer.md R161). -/
def actSessionQuery (k : Fin 3) (s : State) : Host.Outcome State Fault Refusal :=
  .next ({ s with six := BitVec.ofNat 2 k.val }.push [.query (s.params.pidOf (sessionKind k)), .sessionStore k])

/-- What follows query k: the next query, or the close of the connection (43_query_sequencer.md R161, R163). -/
def State.afterQuery (s : State) (k : Fin 3) : State :=
  if s.qout = .err .transportError then s.push [.closeConn, .rdres]
  else
    match k with
    | 0 => s.push [.sessionQuery 1]
    | 1 => s.push [.sessionQuery 2]
    | 2 => { s with six := 3 }.push [.closeConn, .rdres]

/-- `RES[k] <- query(p)` (43_query_sequencer.md R161). -/
def actSessionStore (k : Fin 3) (s : State) : Host.Outcome State Fault Refusal :=
  if s.qoutDefined then .next ({ s with res := s.res.store k s.qout, qst := .idle }.afterQuery k)
  else .fault .undefinedRead

/-- `decode(p, s)` through the wrapper (30_encoding.md R83): the smallest frame that carries the payload. The data
bytes at and above its `DLC` are free values (93_implementation_defined.md U3; log entry 26). -/
def payloadFrame (p : Byte) (s : List Byte) : Frame :=
  { id := Config.rspIdLo, dlc := BitVec.ofNat 4 (3 + s.length),
    data := { d0 := BitVec.ofNat 8 (2 + s.length), d1 := Config.sidRsp, d2 := p,
              d3 := s[0]?.getD (Config.freeFill p s).d3, d4 := s[1]?.getD (Config.freeFill p s).d4,
              d5 := s[2]?.getD (Config.freeFill p s).d5, d6 := s[3]?.getD (Config.freeFill p s).d6,
              d7 := (Config.freeFill p s).d7 } }

/-- One step of the host or the sequencer. -/
def runAct (a : Act) (s : State) : Host.Outcome State Fault Refusal :=
  match a with
  | .ldpid p => .next (s.ldPid p)
  | .ldfrm f => .next (s.ldFrm f)
  | .cmd c => actCmd c s
  | .frame w => actFrame w s
  | .rdfrm => .next s.rdFrm
  | .rdrsp => .next s.rdRsp
  | .rdrdg => .next s.rdRdg
  | .rdstat => .next s.rdStat
  | .rdcmd => .next s.rdCmd
  | .wrstat _ => .next s
  | .rdqpid => actRdQpid s
  | .rdres => .next { s with answer := .results s.res }
  | .send => actSend s
  | .recv => actRecv s
  | .arrive e => .next (s.arrive e)
  | .openConn => .next s.openConnection
  | .closeConn => .next s.closeConnection
  | .encodeRequest p => .next (s.push [.ldpid p, .cmd 1, .rdfrm])
  | .decodeResponse f e => .next (s.push [.ldpid e, .ldfrm f, .cmd 2, .rdrsp])
  | .decodePid p bs =>
    if bs.length ≤ Config.maxPayload then
      .next (s.push [.ldpid p, .ldfrm (payloadFrame p bs), .cmd 2, .cmd 3, .rdrdg])
    else .refused .payloadTooLong
  | .query p => actQuery p s
  | .takeOutcome => actTakeOutcome s
  | .session => actSession s
  | .seqSend => actSeqSend s
  | .seqReceive => actSeqReceive s
  | .seqClassify => actSeqClassify s
  | .seqReading => actSeqReading s
  | .seqFinish => actSeqFinish s
  | .sessionOpen => actSessionOpen s
  | .sessionQuery k => actSessionQuery k s
  | .sessionStore k => actSessionStore k s

/-- Which agent acts next and with what: the sequencer's pending micro steps first, then what the host issues
(20_memory.md R58; log entry 7). -/
def State.nextAct (s : State) : Option Act :=
  match s.seq with
  | a :: _ => some a
  | [] => s.host.head?

/-- Moving past that step. -/
def State.popAct (s : State) : State :=
  match s.seq with
  | _ :: as => { s with seq := as }
  | [] => { s with host := s.host.tail }

/-- Is reset asserted at this step boundary (70_reset_and_hazards.md R210; log entry 18). -/
def State.resetAsserted (s : State) : Bool := s.rstIn.head? == some true

/-- Moving past this step boundary's reset input. -/
def State.sampled (s : State) : State := { s with rstIn := s.rstIn.tail }

/-- The sequencer's own micro steps, which are no steps of a host (30_encoding.md R82; log entry 31). -/
def Act.isMicro : Act → Bool
  | .ldpid _ => false
  | .ldfrm _ => false
  | .cmd _ => false
  | .frame _ => false
  | .rdfrm => false
  | .rdrsp => false
  | .rdrdg => false
  | .rdstat => false
  | .rdcmd => false
  | .wrstat _ => false
  | .rdqpid => false
  | .rdres => false
  | .send => false
  | .recv => false
  | .arrive _ => false
  | .openConn => false
  | .closeConn => false
  | .encodeRequest _ => false
  | .decodeResponse _ _ => false
  | .decodePid _ _ => false
  | .query _ => false
  | .takeOutcome => false
  | .session => false
  | .seqSend => true
  | .seqReceive => true
  | .seqClassify => true
  | .seqReading => true
  | .seqFinish => true
  | .sessionOpen => true
  | .sessionQuery _ => true
  | .sessionStore _ => true

/-- May the agent whose turn it is issue the act: the sequencer any, the host none of the sequencer's own (log entry
31). -/
def State.mayIssue (s : State) (a : Act) : Bool := !s.seq.isEmpty || !a.isMicro

/-- One step of the machine: reset when it is asserted, else the next act; with none the block does nothing
(70_reset_and_hazards.md R211; log entry 7). -/
def stepOf (s : State) : Host.Outcome State Fault Refusal :=
  if s.resetAsserted then .next s.sampled.applyReset
  else
    match s.nextAct with
    | none => .next s.sampled
    | some a => if s.mayIssue a then runAct a s.sampled.popAct else .fault .notHostStep

/-- Putting an act where the next step takes it, with no reset asserted at that boundary. -/
def State.place (s : State) (a : Act) : State :=
  match s.seq with
  | [] => { s with host := a :: s.host, rstIn := false :: s.rstIn }
  | _ :: _ => { s with seq := a :: s.seq, rstIn := false :: s.rstIn }

/-- Placing an opcode-table word where the next step runs it (log entries 3, 7, 22): a command is issued; a selector
byte is put in a valid `RSP` and `DECP` issued; a frame word is given to the block, with `PAD` the last byte of a
request word. -/
def State.placeWord (s : State) (nbits w : Nat) : State :=
  match tableWord nbits w with
  | none => s
  | some (.cmd c) => s.place (.cmd c)
  | some (.sel b) => { s with rsp := { s.rsp with pid := b }, rv := true }.place (.cmd 3)
  | some (.frame v) =>
    if (Frame.unpack v).id = Config.reqId then
      { s with params := { s.params with pad := BitVec.ofNat 8 w } }.place (.frame v)
    else s.place (.frame v)

end Sys2Proof.Machine
end

