-- ==== Sys2Proof/Safety.lean ====
section
/-! DEFINITION. The terms claims are stated in: the invariant of the machine, the four checks as plain arithmetic, the transitions of a query, and what a faithful fuel format is. -/

namespace Sys2Proof.Machine

/-- A reading lies in its documented range (10_state.md R25, R26). -/
def Reading.InRange : Reading → Prop
  | .obdStandard _ _ => True
  | .fuelLevelPercent q => 0 ≤ q ∧ q ≤ 100
  | .runtimeSeconds n => n ≤ 65535

/-- The readings an outcome carries lie in their ranges. -/
def Result.InRange : Result Reading → Prop
  | .ok v => v.InRange
  | .err _ => True

/-- The readings a slot carries lie in their ranges. -/
def Slot.InRange : Slot → Prop
  | .notAttempted => True
  | .done r => r.InRange

/-- While `RSP` is valid it holds a response to the pid in `PIDR`, built from valid operands (10_state.md R24, R30). -/
def State.ResponseInv (s : State) : Prop :=
  s.rv = true →
    s.pv = true ∧ s.fv = true ∧ s.rsp.sid = 0x41 ∧ s.rsp.pid = s.pidr ∧ s.rsp.len.toNat ≤ 4

/-- While `RDG` is valid it holds the reading of the response in `RSP` (10_state.md R31, R36). -/
def State.ReadingInv (s : State) : Prop :=
  s.dv = true →
    s.rv = true ∧ ∃ v, decodePid s.params s.rsp.pid s.rsp.payload = .ok v ∧ s.rdg.reading? = some v

/-- `Decoded` holds a reading and `Failed` an error (43_query_sequencer.md R154), and every reading kept lies in
its range (10_state.md R26). -/
def State.QueryInv (s : State) : Prop :=
  (s.qst = .decoded → ∃ v, s.qout = .ok v) ∧ (s.qst = .failed → ∃ e, s.qout = .err e) ∧
    s.qout.InRange ∧ s.res.res0.InRange ∧ s.res.res1.InRange ∧ s.res.res2.InRange

/-- A reading group answered to the host holds a reading in its range (10_state.md R26). -/
def State.AnswerInv (s : State) : Prop :=
  ∀ g v, s.answer = .reading g → g.reading? = some v → v.InRange

/-- The invariant every step keeps. -/
def State.Inv (s : State) : Prop := s.ResponseInv ∧ s.ReadingInv ∧ s.QueryInv ∧ s.AnswerInv

/-- The transitions of the per-query state machine, and staying where it is (43_query_sequencer.md R150). -/
def QState.MayBecome : QState → QState → Prop
  | .idle, .awaitingResponse => True
  | .idle, .failed => True
  | .awaitingResponse, .decoded => True
  | .awaitingResponse, .failed => True
  | .decoded, .idle => True
  | .failed, .idle => True
  | a, b => a = b

/-- The arbitration id lies in 0x7E8 to 0x7EF (41_frame_decode.md R112). -/
def idOkAt (id : ArbId) : Bool := decide (0x7E8 ≤ id.toNat) && decide (id.toNat ≤ 0x7EF)

/-- The length byte is well formed for the `DLC` (41_frame_decode.md R112). -/
def lenOkAt (dlc : Nat) (d : FrameData) : Bool :=
  decide (1 ≤ dlc) && decide (2 ≤ d.d0.toNat) && decide (d.d0.toNat ≤ 6) && decide (d.d0.toNat ≤ dlc - 1)

/-- The service byte is there and is 0x41 (41_frame_decode.md R112). -/
def svcOkAt (dlc : Nat) (d : FrameData) : Bool := decide (2 ≤ dlc) && d.d1 == 0x41

/-- The pid byte is there and is the expected one (41_frame_decode.md R112). -/
def pidOkAt (dlc : Nat) (d : FrameData) (e : Byte) : Bool := decide (3 ≤ dlc) && d.d2 == e

/-- A list of events in which every frame is skipped by a query for `p` (43_query_sequencer.md R155). -/
def AllSkipped (p : Byte) (l : List RxEvent) : Prop :=
  ∀ e ∈ l, ∃ g, e = .frame g ∧ classify (checks g p) = .skip

/-- The state a query ends in (43_query_sequencer.md R154). -/
def endState : Result Reading → QState
  | .ok _ => .decoded
  | .err _ => .failed

/-- The values 10_state.md R40 gives for reset. -/
def State.AtReset (s : State) : Prop :=
  s.pv = false ∧ s.fv = false ∧ s.rv = false ∧ s.dv = false ∧ s.cmd = 0 ∧ s.stat = 0 ∧ s.qst = .idle ∧ s.six = 0 ∧
    s.res = ⟨.notAttempted, .notAttempted, .notAttempted⟩ ∧ s.conn = .closed

/-- Everything that is not a register of the block is the same in both states. -/
def State.SameAround (s t : State) : Prop :=
  t.params = s.params ∧ t.qst = s.qst ∧ t.qpid = s.qpid ∧ t.qout = s.qout ∧ t.six = s.six ∧ t.res = s.res ∧
    t.conn = s.conn ∧ t.rxq = s.rxq ∧ t.oracle = s.oracle ∧ t.oracleIx = s.oracleIx ∧ t.opens = s.opens ∧ t.sent = s.sent ∧
    t.lastFrame = s.lastFrame ∧ t.answer = s.answer ∧ t.seq = s.seq ∧ t.host = s.host ∧ t.rstIn = s.rstIn

/-- The end of a run (70_reset_and_hazards.md R213): the connection is closed, and either all three queries ran or
some query ended with `TransportError` and the later slots are `NotAttempted`. -/
def State.SessionEnded (s : State) : Prop :=
  s.conn = .closed ∧
    ((s.six = 3 ∧ ∀ r ∈ [s.res.res0, s.res.res1, s.res.res2], ∃ q, r = .done q ∧ q ≠ .err .transportError) ∨
      s.res.res0 = .done (.err .transportError) ∧ s.res.res1 = .notAttempted ∧ s.res.res2 = .notAttempted ∨
      s.res.res1 = .done (.err .transportError) ∧ s.res.res2 = .notAttempted ∨
      s.res.res2 = .done (.err .transportError))

/-- A conversion of the fuel value to a number outside the block is faithful (42_pid_decode.md R140): exact at both
ends, monotonic, and within 0.05 of 50.2 at 0x80. It is the condition on the OPEN parameter `FUEL_FMT`. -/
def FaithfulFuelFormat (f : Byte → Rat) : Prop :=
  f 0 = 0 ∧ f 255 = 100 ∧ (∀ a b : Byte, a.toNat ≤ b.toNat → f a ≤ f b) ∧
    502 / 10 - 5 / 100 ≤ f 0x80 ∧ f 0x80 ≤ 502 / 10 + 5 / 100

end Sys2Proof.Machine
end

