-- ==== Sys2Proof/WellFormed.lean ====
section
/-! DEFINITION. The check on an instruction: the constraints the opcode table puts on its row beyond the mask, and which row owns a word that two rows match. -/

namespace Sys2Proof

/-- The check on an instruction: the constraints of its row, and for the general rows `REQ` and `RSP` that no
instance row owns the word (30_encoding.md R73, R75, R76). -/
def WellFormed (p : Params) : Instr → Bool
  | .nop => true
  | .enc => true
  | .decf => true
  | .decp => true
  | .decpStd => true
  | .decpFuel => true
  | .decpRuntime => true
  | .req pid => (p.kindOf pid).isNone
  | .reqStd => true
  | .reqFuel => true
  | .reqRuntime => true
  | .rsp pid f =>
    f.fits 2 && (match p.kindOf pid with
      | none => true
      | some k => !f.fitsKind k)
  | .rspStd f => f.fitsKind .standard
  | .rspFuel f => f.fitsKind .fuel
  | .rspRuntime f => f.fitsKind .runtime

end Sys2Proof
end

