-- ==== Sys2Proof/Certificates/Slice0/Obligations.lean ====
section
/-! DEFINITION. The statements for the provers. A next state is written as the old one with the fields that change, so each equation says the result and the frame at once. -/

section

open Sys2Proof Sys2Proof.Machine

/-! ### Reset and the step -/

/-- 10_state.md R40: the values reset leaves. -/
def Obligations.ResetValues : Prop := State.reset.AtReset

/-- 70_reset_and_hazards.md R210: reset applied between any two steps. That `RXQ` is kept across it is the model's choice,
since R210 and 10_state.md R40 leave what it then holds unspecified (log entry 28); how reset is asserted, and that the
model's fields for the transport are kept, are log entries 18 and 5. -/
def Obligations.ResetAnyState : Prop :=
  ∀ s : State, s.resetAsserted = true →
    ∃ t, step s = .next t ∧ t.AtReset ∧ t.rxq = s.rxq ∧ t.oracle = s.oracle ∧ t.oracleIx = s.oracleIx ∧
      t.opens = s.opens ∧ t.sent = s.sent ∧ t.params = s.params

/-- 70_reset_and_hazards.md R211: the block does nothing until the host issues a step. -/
def Obligations.IdleStep : Prop :=
  ∀ s : State, s.resetAsserted = false → s.seq = [] → s.host = [] → step s = .next { s with rstIn := s.rstIn.tail }

/-- 10_state.md R32, 30_encoding.md R80, R81: a write of `CMD` runs the decoded command at once and is what `CMD` then
reads; `DECP` with a valid `RSP` runs the row its pid byte selects. `sampled` passes the step boundary's
reset input and `popAct` takes the act off its list. -/
def Obligations.StepRunsCommand : Prop :=
  ∀ (s : State) (c : CmdCode) (i : Instr), s.resetAsserted = false → s.nextAct = some (.cmd c) →
    (decode s.params (.cmd c) = .ok i → step s = exec i (s.sampled.popAct.writeCmd c)) ∧
      (c = 3 → s.rv = true → decode s.params (.sel s.rsp.pid) = .ok i →
        step s = exec i (s.sampled.popAct.writeCmd c))

/-- The model's choice (log entries 8 and 21): a frame word given to the block runs the row it decodes to, and any other
frame word is loaded and classified (30_encoding.md R78). -/
def Obligations.StepRunsFrameWord : Prop :=
  ∀ (s : State) (w : FrameWord), s.resetAsserted = false → s.nextAct = some (.frame w) →
    (∀ i, decode s.params (.frame w) = .ok i → step s = exec i s.sampled.popAct) ∧
      (∀ r, decode s.params (.frame w) = .error r →
        step s = exec .decf ((s.sampled.popAct.ldFrm (Frame.unpack w)).writeCmd 2))

/-- 10_state.md R38: the parameters are fixed for a run. -/
def Obligations.ParamsFixed : Prop := ∀ s t : State, step s = .next t → t.params = s.params

/-- The invariant holds at reset (10_state.md R24, R26, R31). -/
def Obligations.InvAtReset : Prop := State.reset.Inv

/-- 10_state.md R24, R26, R31, R36; 43_query_sequencer.md R154: every step keeps the invariant, which speaks of the groups,
of the outcomes kept and of a reading last answered to the host. -/
def Obligations.StepKeepsInv : Prop := ∀ s t : State, s.Inv → step s = .next t → t.Inv

/-- 43_query_sequencer.md R150: `QST` moves only along the listed transitions. -/
def Obligations.QueryTransitions : Prop :=
  ∀ s t : State, s.resetAsserted = false → step s = .next t → s.qst.MayBecome t.qst

/-! ### Encodings -/

/-- Decoding the word of a well-formed instruction gives the instruction back, for every choice of the parameters
(30_encoding.md R70 to R84). -/
def Obligations.EncodeThenDecode : Prop :=
  ∀ (p : Params) (i : Instr), p.valid = true → WellFormed p i = true → decode p (encode p i) = .ok i

/-- A word that decodes is the word of its instruction: no bit is dropped (30_encoding.md R70 to R84). -/
def Obligations.DecodeThenEncode : Prop :=
  ∀ (p : Params) (w : InstrWord) (i : Instr), decode p w = .ok i → encode p i = w

/-- Words written out from 30_encoding.md R72, R73, R75, R76, R80, R81. -/
def Obligations.DecodeWords : Prop :=
  decodeTableWord 2 0b01 = some .enc ∧ decodeTableWord 8 0x2F = some .decpFuel ∧
    decodeTableWord 79 0x7DF802011C5555555555 = some .reqStd ∧ decodeTableWord 79 0x7DF80201FF5555555555 = some (.req 0xFF) ∧
    decodeTableWord 79 0x7EB805411F01020304AA = some (.rspRuntime ⟨3, 8, 5, 1, 2, 3, 4, 0xAA⟩) ∧
    decodeTableWord 79 0x7E8302412FAAAAAAAAAA = some (.rsp 0x2F ⟨0, 3, 2, 0xAA, 0xAA, 0xAA, 0xAA, 0xAA⟩) ∧
    decodeTableWord 79 0x7E8803422F8000000000 = none

/-- opcode_table.json (30_encoding.md R84): the word of every request row and of every response row matches its row's
match and mask, at the default pids. -/
def Obligations.RowPatterns : Prop :=
  ∀ (pad pid : Byte) (f : RspFields),
    (requestFrame (Config.defaultsAt pad) pid).pack &&& 0x7FFFFFFF000000000000#79 = 0x7DF80201000000000000#79 ∧
      (responseFrame pid f).pack &&& 0x7F8000FF000000000000#79 = 0x7E800041000000000000#79 ∧
      encode (Config.defaultsAt pad) .reqStd = encode (Config.defaultsAt pad) (.req 0x1C) ∧
      encode (Config.defaultsAt pad) .reqFuel = encode (Config.defaultsAt pad) (.req 0x2F) ∧
      encode (Config.defaultsAt pad) .reqRuntime = encode (Config.defaultsAt pad) (.req 0x1F) ∧
      encode (Config.defaultsAt pad) (.rspStd f) = .frame (responseFrame 0x1C f).pack ∧
      encode (Config.defaultsAt pad) (.rspFuel f) = .frame (responseFrame 0x2F f).pack ∧
      encode (Config.defaultsAt pad) (.rspRuntime f) = .frame (responseFrame 0x1F f).pack

/-- Rejected words by name: any other id (30_encoding.md R71), a response id with another service byte (R78), a selector
outside the closed set (R81). -/
def Obligations.DecodeRejects : Prop :=
  ∀ (p : Params) (w : FrameWord) (b : Byte),
    ((Frame.unpack w).id ≠ 0x7DF → idOkAt (Frame.unpack w).id = false →
      decode p (.frame w) = .error .unrelatedId) ∧
    (idOkAt (Frame.unpack w).id = true → (Frame.unpack w).data.d1 ≠ 0x41 →
      decode p (.frame w) = .error .wrongService) ∧
    (b ≠ p.pidStd → b ≠ 0x2F → b ≠ p.pidRuntime → decode p (.sel b) = .error .unsupportedPid)

/-! ### `NOP` and `ENC` -/

/-- 40_frame_encode.md R104: `NOP` changes nothing. -/
def Obligations.NopEffect : Prop := ∀ s : State, exec .nop s = .next s

/-- 40_frame_encode.md R101: `ENC`, with and without a valid `PIDR`. That `FRM` and `FV` stay when `PV` is 0 is R101's own
line, where 60_exceptions.md R186 reads otherwise (log entry 10). -/
def Obligations.EncEffect : Prop :=
  ∀ s : State,
    (s.pv = true →
      exec .enc s =
        .next { s with
          frm := ⟨0x7DF, 8, ⟨0x02, 0x01, s.pidr, s.params.pad, s.params.pad, s.params.pad, s.params.pad, s.params.pad⟩⟩
          fv := true, rv := false, dv := false, stat := 0x200 }) ∧
      (s.pv = false → exec .enc s = .next { s with rv := false, dv := false, stat := 0x205 })

/-- 40_frame_encode.md R100, R103: `EncodeRequest` fails only outside 0..255. -/
def Obligations.EncodeRequestRange : Prop :=
  ∀ (p : Params) (n : Int),
    (0 ≤ n → n ≤ 255 →
      encodeRequest p n =
        .ok ⟨0x7DF, 8, ⟨0x02, 0x01, BitVec.ofInt 8 n, p.pad, p.pad, p.pad, p.pad, p.pad⟩⟩) ∧
      (n < 0 ∨ 255 < n → encodeRequest p n = .err .rangeError)

/-- 40_frame_encode.md R102 (d): the block never mistakes its own request for a response. -/
def Obligations.OwnRequestRefused : Prop :=
  ∀ (p : Params) (n : Int) (f : CanFrame) (e : Byte), encodeRequest p n = .ok f →
    decodeResponse f e = .err (.protocolError .wrongArbitrationId)

/-! ### `DecodeResponse` and `DECF` -/

/-- 41_frame_decode.md R110, R111, R113: the one outcome of every frame and expected pid: the first check that fails in
the listed order, or the response. -/
def Obligations.DecodeResponseOutcome : Prop :=
  ∀ (f : CanFrame) (e : Byte),
    decodeResponse f e =
      if !idOkAt f.arbitrationId then .err (.protocolError .wrongArbitrationId)
      else if !lenOkAt f.dlc.val f.data then .err (.protocolError .malformedLength)
      else if !svcOkAt f.dlc.val f.data then .err (.protocolError .wrongService)
      else if !pidOkAt f.dlc.val f.data e then .err (.protocolError .pidMismatch)
      else .ok ⟨0x41, e, [f.data.d3, f.data.d4, f.data.d5, f.data.d6].take (f.data.d0.toNat - 2)⟩

/-- 41_frame_decode.md R118 (b), 40_frame_encode.md R102 (e): a response that matches the request round-trips. -/
def Obligations.ResponseRoundTrip : Prop :=
  ∀ (p : Params) (b : Byte) (q g : CanFrame), encodeRequest p b.toNat = .ok q →
    idOkAt g.arbitrationId = true → 2 ≤ g.data.d0.toNat → g.data.d0.toNat ≤ 6 → g.data.d0.toNat + 1 ≤ g.dlc.val →
    g.data.d1 = q.data.d1 + 0x40 → g.data.d2 = q.data.d2 →
    ∃ r, decodeResponse g b = .ok r ∧ r.pid = b ∧ r.serviceId = 0x41

/-- 41_frame_decode.md R118 (c): a wrong service byte never gives a response. -/
def Obligations.WrongServiceRefused : Prop :=
  ∀ (f : CanFrame) (e : Byte), idOkAt f.arbitrationId = true → f.data.d1 ≠ 0x41 →
    decodeResponse f e =
      .err (.protocolError (if lenOkAt f.dlc.val f.data then .wrongService else .malformedLength))

/-- 41_frame_decode.md R118 (d), R115: bytes after index N, and the id beyond its range, make no difference. -/
def Obligations.PaddingIgnored : Prop :=
  ∀ (f g : CanFrame) (e : Byte), f.dlc = g.dlc → idOkAt f.arbitrationId = idOkAt g.arbitrationId →
    f.data.d0 = g.data.d0 → (1 ≤ f.data.d0.toNat → f.data.d1 = g.data.d1) →
    (2 ≤ f.data.d0.toNat → f.data.d2 = g.data.d2) → (3 ≤ f.data.d0.toNat → f.data.d3 = g.data.d3) →
    (4 ≤ f.data.d0.toNat → f.data.d4 = g.data.d4) → (5 ≤ f.data.d0.toNat → f.data.d5 = g.data.d5) →
    (6 ≤ f.data.d0.toNat → f.data.d6 = g.data.d6) → decodeResponse f e = decodeResponse g e

/-- 41_frame_decode.md R116: `DECF`, in the rule's own three cases; `DLC` 9 to 15 is `DecfOversize`. -/
def Obligations.DecfEffect : Prop :=
  ∀ s : State,
    (s.fv = false ∨ s.pv = false → exec .decf s = .next { s with rv := false, dv := false, stat := 0x405 }) ∧
    (s.fv = true → s.pv = true → 9 ≤ s.frm.dlc.toNat →
      exec .decf s =
        .next { s with rv := false, dv := false, stat := if idOkAt s.frm.id then 0x42A else 0x402 }) ∧
    (∀ f : CanFrame, s.fv = true → s.pv = true → f.arbitrationId = s.frm.id → f.dlc.val = s.frm.dlc.toNat →
      f.data = s.frm.data →
      (∀ r, decodeResponse f s.pidr = .ok r →
        ∃ g : RspGroup, g.sid = r.serviceId ∧ g.pid = r.pid ∧ g.len.toNat = r.payload.length ∧ g.payload = r.payload ∧
          exec .decf s = .next { s with rsp := g, rv := true, dv := false, stat := 0x5E0 }) ∧
      (∀ k, decodeResponse f s.pidr = .err (.protocolError k) →
        exec .decf s =
          .next { s with rv := false, dv := false, stat := 2#2 ++ (checks f s.pidr).bits ++ k.code ++ 2#3 }))

/-- 41_frame_decode.md R119: `FRM.DLC` in 9..15; only the id is looked at. -/
def Obligations.DecfOversize : Prop :=
  ∀ s : State, s.fv = true → s.pv = true → 9 ≤ s.frm.dlc.toNat →
    exec .decf s =
      .next { s with rv := false, dv := false, stat := if idOkAt s.frm.id then 0x42A else 0x402 }

/-- 41_frame_decode.md R110, R114, R116: an accepted frame. -/
def Obligations.DecfAccepts : Prop :=
  ∀ s : State, s.fv = true → s.pv = true → s.frm.dlc.toNat ≤ 8 → idOkAt s.frm.id = true →
    lenOkAt s.frm.dlc.toNat s.frm.data = true → svcOkAt s.frm.dlc.toNat s.frm.data = true →
    pidOkAt s.frm.dlc.toNat s.frm.data s.pidr = true →
    ∃ g : RspGroup, g.sid = 0x41 ∧ g.pid = s.pidr ∧ g.len.toNat = s.frm.data.d0.toNat - 2 ∧
      g.payload = [s.frm.data.d3, s.frm.data.d4, s.frm.data.d5, s.frm.data.d6].take (s.frm.data.d0.toNat - 2) ∧
      exec .decf s = .next { s with rsp := g, rv := true, dv := false, stat := 0x5E0 }

/-- 41_frame_decode.md R112, R113, R116: a refused frame, with the four flags and the first check that fails. -/
def Obligations.DecfRefuses : Prop :=
  ∀ (s : State) (i l v p : Bool), s.fv = true → s.pv = true → s.frm.dlc.toNat ≤ 8 →
    i = idOkAt s.frm.id → l = lenOkAt s.frm.dlc.toNat s.frm.data → v = svcOkAt s.frm.dlc.toNat s.frm.data →
    p = pidOkAt s.frm.dlc.toNat s.frm.data s.pidr → (i && l && v && p) = false →
    exec .decf s =
      .next { s with
        rv := false, dv := false
        stat := 2#2 ++ (BitVec.ofBool p ++ BitVec.ofBool v ++ BitVec.ofBool l ++ BitVec.ofBool i)
          ++ (if !i then 0#2 else if !l then 1#2 else if !v then 2#2 else 3#2) ++ 2#3 }

/-! ### `DecodePid` and `DECP` -/

/-- 42_pid_decode.md R132, R133, R141: which payloads fail, with which error. -/
def Obligations.DecodePidErrors : Prop :=
  ∀ (p : Params) (b : Byte) (s : List Byte),
    (decodePid p b s = .err .unsupportedPid ↔ b ≠ p.pidStd ∧ b ≠ 0x2F ∧ b ≠ p.pidRuntime) ∧
      (∀ k, p.kindOf b = some k → (decodePid p b s = .err .decodeError ↔ s.length < k.need)) ∧
      (∀ e, decodePid p b s = .err e → e = .unsupportedPid ∨ e = .decodeError)

/-- 42_pid_decode.md R134: the OBD standard is a lookup that never fails on a byte. -/
def Obligations.StandardReading : Prop :=
  ∀ (p : Params) (a : Byte) (t : List Byte),
    (∃ known, decodePid p p.pidStd (a :: t) = .ok (.obdStandard a known) ∧
      (known = true ↔ ∃ e ∈ p.stdTable, e.code = a)) ∧
      decodePid p p.pidStd [] = .err .decodeError

/-- 42_pid_decode.md R135: the fuel level, its range, its ends, its strict monotonicity, and where it is an integer. -/
def Obligations.FuelReading : Prop :=
  ∀ (p : Params) (a c : Byte) (t : List Byte), p.valid = true →
    decodePid p 0x2F (a :: t) = .ok (.fuelLevelPercent (100 * (a.toNat : Rat) / 255)) ∧
      decodePid p 0x2F [] = .err .decodeError ∧
      0 ≤ 100 * (a.toNat : Rat) / 255 ∧ 100 * (a.toNat : Rat) / 255 ≤ 100 ∧
      (a.toNat < c.toNat → 100 * (a.toNat : Rat) / 255 < 100 * (c.toNat : Rat) / 255) ∧
      ((∃ n : Nat, 100 * (a.toNat : Rat) / 255 = n) ↔ a ∈ ([0, 51, 102, 153, 204, 255] : List Byte))

/-- 42_pid_decode.md R136: the runtime, two bytes big-endian. -/
def Obligations.RuntimeReading : Prop :=
  ∀ (p : Params) (a b : Byte) (t : List Byte), p.valid = true →
    decodePid p p.pidRuntime (a :: b :: t) = .ok (.runtimeSeconds (a.toNat * 256 + b.toNat)) ∧
      a.toNat * 256 + b.toNat = (a ++ b).toNat ∧ a.toNat * 256 + b.toNat ≤ 65535 ∧
      decodePid p p.pidRuntime [a] = .err .decodeError ∧ decodePid p p.pidRuntime [] = .err .decodeError

/-- 42_pid_decode.md R140: the exact rational meets the three conditions on a fuel format. -/
def Obligations.FuelFormatExact : Prop := FaithfulFuelFormat fuelPercent

/-- 42_pid_decode.md R137: `DECP`, in the rule's own six cases. -/
def Obligations.DecpEffect : Prop :=
  ∀ s : State,
    (s.rv = false → exec .decp s = .next { s with dv := false, stat := 0x605 }) ∧
    (s.rv = true →
      match decodePid s.params s.rsp.pid s.rsp.payload with
      | .ok (.obdStandard c k) =>
        exec .decp s = .next { s with rdg := ⟨1, 0#8 ++ c, k⟩, dv := true, stat := 0x600 }
      | .ok (.fuelLevelPercent _) =>
        exec .decp s =
          .next { s with rdg := ⟨2, BitVec.ofNat 16 (100 * s.rsp.pl.pl0.toNat), false⟩, dv := true, stat := 0x600 }
      | .ok (.runtimeSeconds n) =>
        exec .decp s = .next { s with rdg := ⟨3, BitVec.ofNat 16 n, false⟩, dv := true, stat := 0x600 }
      | .err .decodeError => exec .decp s = .next { s with dv := false, stat := 0x603 }
      | .err .unsupportedPid => exec .decp s = .next { s with dv := false, stat := 0x604 }
      | .err _ => False)

/-- 42_pid_decode.md R137, 30_encoding.md R81: `DECP` and its rows with no valid `RSP`. That a row can be run on its own
where no valid `RSP.PID` selects it is the model's choice (log entry 9). -/
def Obligations.DecpOperandInvalid : Prop :=
  ∀ (s : State) (i : Instr), i ∈ [Instr.decp, .decpStd, .decpFuel, .decpRuntime] → s.rv = false →
    exec i s = .next { s with dv := false, stat := 0x605 }

/-- 42_pid_decode.md R132, R133, R137: the two errors of `DECP`, and the one of a selector row. That the row run on its own
puts no condition on `RSP.PID`, so that it leaves 0x603 even where `DECP` leaves 0x604, is the model's choice (log
entry 9). -/
def Obligations.DecpErrors : Prop :=
  ∀ s : State, s.rv = true →
    (s.rsp.pid ≠ s.params.pidStd → s.rsp.pid ≠ 0x2F → s.rsp.pid ≠ s.params.pidRuntime →
      exec .decp s = .next { s with dv := false, stat := 0x604 }) ∧
    (∀ k, s.params.kindOf s.rsp.pid = some k → s.rsp.len.toNat < k.need →
      exec .decp s = .next { s with dv := false, stat := 0x603 }) ∧
    (∀ k, s.rsp.len.toNat < k.need → exec (selectorRow k) s = .next { s with dv := false, stat := 0x603 })

/-- 42_pid_decode.md R134, R137: `DECP.STD`, and `DECP` when `RSP.PID` selects it. That the row run on its own puts no
condition on `RSP.PID` is the model's choice (log entry 9). -/
def Obligations.DecpStandard : Prop :=
  ∀ (s : State) (i : Instr), s.rv = true → 1 ≤ s.rsp.len.toNat →
    (i = .decpStd ∨ i = .decp ∧ s.rsp.pid = s.params.pidStd) →
    ∃ known, (known = true ↔ ∃ e ∈ s.params.stdTable, e.code = s.rsp.pl.pl0) ∧
      exec i s = .next { s with rdg := ⟨1, 0#8 ++ s.rsp.pl.pl0, known⟩, dv := true, stat := 0x600 }

/-- 42_pid_decode.md R135, R137: `DECP.FUEL`, and `DECP` when `RSP.PID` selects it. That the row run on its own puts no
condition on `RSP.PID` is the model's choice (log entry 9). -/
def Obligations.DecpFuel : Prop :=
  ∀ (s : State) (i : Instr), s.rv = true → 1 ≤ s.rsp.len.toNat →
    (i = .decpFuel ∨ i = .decp ∧ s.rsp.pid = 0x2F ∧ s.params.valid = true) →
    exec i s =
      .next { s with rdg := ⟨2, BitVec.ofNat 16 (100 * s.rsp.pl.pl0.toNat), false⟩, dv := true, stat := 0x600 }

/-- 42_pid_decode.md R136, R137: `DECP.RUNTIME`, and `DECP` when `RSP.PID` selects it. That the row run on its own puts no
condition on `RSP.PID` is the model's choice (log entry 9). -/
def Obligations.DecpRuntime : Prop :=
  ∀ (s : State) (i : Instr), s.rv = true → 2 ≤ s.rsp.len.toNat →
    (i = .decpRuntime ∨ i = .decp ∧ s.rsp.pid = s.params.pidRuntime ∧ s.params.valid = true) →
    exec i s = .next { s with rdg := ⟨3, s.rsp.pl.pl0 ++ s.rsp.pl.pl1, false⟩, dv := true, stat := 0x600 }

/-- 10_state.md R31, 42_pid_decode.md R137: the register form loses nothing: `RDG` read by its tag is the reading. -/
def Obligations.ReadingGroupFaithful : Prop :=
  ∀ (s : State) (v : Reading), s.rv = true → decodePid s.params s.rsp.pid s.rsp.payload = .ok v →
    ∃ t, exec .decp s = .next t ∧ t.dv = true ∧ t.rdg.reading? = some v

/-! ### All commands -/

/-- 20_memory.md R55: every command is idempotent. -/
def Obligations.CommandsIdempotent : Prop :=
  ∀ (i : Instr) (s t : State), i ∈ [Instr.nop, .enc, .decf, .decp] → exec i s = .next t → exec i t = .next t

/-- What a row that writes `STAT` can leave in its fields. 10_state.md R32: `OP` is 0 only after reset, classes 6 and 7
are never written, `KIND` is 0 unless `ERR` is 2, and `CHK` is 0 unless `OP` is `DECF`. 40_frame_encode.md R101, R103,
60_exceptions.md R181, R182: class 1 is never written, since `RangeError` is raised at function level only and no command
can raise it. For the frame rows and for the selector rows run on their own this rests on the model's choice of what
running one is (log entries 8 and 9). -/
def Obligations.StatFields : Prop :=
  ∀ (i : Instr) (s t : State), i ≠ .nop → exec i s = .next t →
    opField t.stat ≠ 0 ∧ errField t.stat ≠ 1 ∧ errField t.stat ≠ 6 ∧ errField t.stat ≠ 7 ∧
      (errField t.stat ≠ 2 → kindField t.stat = 0) ∧ (opField t.stat ≠ 2 → chkField t.stat = 0)

/-- 10_state.md R36: no row of the table writes the sequencer's, the transport's or the host's state. For the frame rows
this rests on the model's choice of what running one is (log entry 8). -/
def Obligations.RowsLeaveAround : Prop := ∀ (i : Instr) (s t : State), exec i s = .next t → s.SameAround t

/-- 10_state.md R36: `DV` is up only over a valid `RSP`, and a command that leaves `RV` up leaves the operands it rests
on valid: downstream never outlives upstream. For the frame rows, and for the selector rows run on their own, this rests on
the model's choice of what running one is (log entries 8 and 9). -/
def Obligations.DownstreamInvalidated : Prop :=
  ∀ (i : Instr) (s t : State), exec i s = .next t → (s.dv = true → s.rv = true) →
    (s.rv = true → s.pv = true ∧ s.fv = true) →
    (t.dv = true → t.rv = true) ∧ (t.rv = true → t.pv = true ∧ t.fv = true)

/-! ### The frame rows (the model's choice of what running one is: log entry 8) -/

/-- 30_encoding.md R72, R75, R83: a request row is the block building that frame. -/
def Obligations.RequestRows : Prop :=
  ∀ (s : State) (i : Instr) (p : Byte),
    (i = .req p ∨ i = .reqStd ∧ p = s.params.pidStd ∨ i = .reqFuel ∧ p = 0x2F ∨
      i = .reqRuntime ∧ p = s.params.pidRuntime) →
    exec i s =
      .next { s with
        pidr := p, pv := true
        frm := ⟨0x7DF, 8, ⟨0x02, 0x01, p, s.params.pad, s.params.pad, s.params.pad, s.params.pad, s.params.pad⟩⟩
        fv := true, rv := false, dv := false, cmd := 1, stat := 0x200 }

/-- 30_encoding.md R73: a response row whose constraints hold and whose pid is the expected one is recognised. -/
def Obligations.ResponseRecognised : Prop :=
  ∀ (s : State) (pid : Byte) (f : RspFields), s.pv = true → s.pidr = pid → f.fits 2 = true →
    ∃ g : RspGroup, g.sid = 0x41 ∧ g.pid = pid ∧ g.len.toNat = f.n.toNat - 2 ∧
      g.payload = [f.d3, f.d4, f.d5, f.d6].take (f.n.toNat - 2) ∧
      exec (.rsp pid f) s =
        .next { s with
          frm := ⟨0b11111101#8 ++ f.ecu, f.dlc, ⟨f.n, 0x41, pid, f.d3, f.d4, f.d5, f.d6, f.d7⟩⟩, fv := true
          rsp := g, rv := true, dv := false, cmd := 2, stat := 0x5E0 }

/-- 30_encoding.md R76: the three response rows decode to their readings. -/
def Obligations.ResponseRowsRead : Prop :=
  ∀ (s : State) (k : PidKind) (f : RspFields), s.params.valid = true → s.pv = true → s.pidr = s.params.pidOf k →
    f.fitsKind k = true →
    ∃ (g : RspGroup) (d : RdgGroup),
      g.sid = 0x41 ∧ g.pid = s.pidr ∧ g.len.toNat = f.n.toNat - 2 ∧
      g.payload = [f.d3, f.d4, f.d5, f.d6].take (f.n.toNat - 2) ∧
      (k = .standard → d.tag = 1 ∧ d.val = 0#8 ++ f.d3 ∧ (d.known = true ↔ ∃ e ∈ s.params.stdTable, e.code = f.d3)) ∧
      (k = .fuel → d = ⟨2, BitVec.ofNat 16 (100 * f.d3.toNat), false⟩) ∧
      (k = .runtime → d = ⟨3, f.d3 ++ f.d4, false⟩) ∧
      exec (responseRow f k) s =
        .next { s with
          frm := ⟨0b11111101#8 ++ f.ecu, f.dlc, ⟨f.n, 0x41, s.pidr, f.d3, f.d4, f.d5, f.d6, f.d7⟩⟩, fv := true
          rsp := g, rv := true, rdg := d, dv := true, cmd := 3, stat := 0x600 }

/-- 41_frame_decode.md R116, R112: a response row with no `PIDR` loaded, or of another pid, leaves no response. -/
def Obligations.ResponseRowsRefused : Prop :=
  ∀ (s : State) (i : Instr) (p : Byte) (f : RspFields),
    (i = .rsp p f ∨ ∃ k, i = responseRow f k ∧ p = s.params.pidOf k) →
    (s.pv = false →
      exec i s =
        .next { s with frm := responseFrame p f, fv := true, rv := false, dv := false, cmd := 2, stat := 0x405 }) ∧
    (s.pv = true → s.pidr ≠ p → f.fits 2 = true →
      exec i s =
        .next { s with frm := responseFrame p f, fv := true, rv := false, dv := false, cmd := 2, stat := 0x4FA })

/-! ### Host transactions -/

/-- 10_state.md R28, R29: `LDPID` and `LDFRM`. -/
def Obligations.HostLoads : Prop :=
  ∀ (s : State) (p : Byte) (f : Frame),
    runAct (.ldpid p) s = .next { s with pidr := p, pv := true, rv := false, dv := false } ∧
      runAct (.ldfrm f) s = .next { s with frm := f, fv := true, rv := false, dv := false }

/-- 10_state.md R31, R32: a read returns the group when its valid bit is 1 and `OperandInvalid` when it is 0, and writes
no register; `RDFRM` keeps the frame for `SEND` (30_encoding.md R82); a write of `STAT` is ignored. -/
def Obligations.HostReads : Prop :=
  ∀ (s : State) (v : StatWord),
    (s.fv = true → runAct .rdfrm s = .next { s with answer := .frame s.frm, lastFrame := some s.frm }) ∧
    (s.fv = false → runAct .rdfrm s = .next { s with answer := .error .operandInvalid }) ∧
    (s.rv = true →
      runAct .rdrsp s = .next { s with answer := .response ⟨s.rsp.sid, s.rsp.pid, s.rsp.payload⟩ }) ∧
    (s.rv = false → runAct .rdrsp s = .next { s with answer := .error .operandInvalid }) ∧
    (s.dv = true → runAct .rdrdg s = .next { s with answer := .reading s.rdg }) ∧
    (s.dv = false → runAct .rdrdg s = .next { s with answer := .error .operandInvalid }) ∧
    runAct .rdstat s = .next { s with answer := .status s.stat } ∧ runAct (.wrstat v) s = .next s

/-- 20_memory.md R55, 43_query_sequencer.md R152: `receive` removes the event it returns, and answers `timeout` when
the list is used up. -/
def Obligations.ReceiveAnswers : Prop :=
  ∀ s : State, s.conn = .opened →
    (s.rxq = [] → runAct .recv s = .next { s with answer := .received .timeout }) ∧
    (∀ g l, s.rxq = .frame g :: l → runAct .recv s = .next { s with rxq := l, answer := .received (.frame g) }) ∧
    (∀ l, s.rxq = .failure :: l → runAct .recv s = .next { s with rxq := l, answer := .received .failure })

/-- 30_encoding.md R83: the frame `decode(p, s)` loads decodes to exactly `0x41`, `p`, `s`. -/
def Obligations.WrapperFrame : Prop :=
  ∀ (p : Byte) (s : List Byte), s.length ≤ 4 →
    ∃ f, toCanFrame? (payloadFrame p s) = some f ∧ decodeResponse f p = .ok ⟨0x41, p, s⟩

/-! ### The sequencer -/

/-- 43_query_sequencer.md R155: the classification of a received frame, from the flags its `DECF` leaves in
`STAT.CHK`. -/
def Obligations.Classification : Prop :=
  ∀ (g : CanFrame) (p : Byte),
    (idOkAt g.arbitrationId = false → classify (checks g p) = .skip) ∧
    (pidOkAt g.dlc.val g.data p = false → classify (checks g p) = .skip) ∧
    (idOkAt g.arbitrationId = true → pidOkAt g.dlc.val g.data p = true →
      classify (checks g p) =
        if !lenOkAt g.dlc.val g.data then .fail .malformedLength
        else if !svcOkAt g.dlc.val g.data then .fail .wrongService
        else .accept) ∧
    (classify (checks g p) = .accept → ∃ r, decodeResponse g p = .ok r) ∧
    (∀ s : State, s.pv = true → s.pidr = p →
      ∃ t, exec .decf (s.ldFrm (CanFrame.toFrame g)) = .next t ∧ flagsOfStat t.stat = checks g p)

/-- 43_query_sequencer.md R154, R157, R158: skipped frames make no difference, and the first frame that is not skipped
decides whatever follows it. -/
def Obligations.FirstMatchWins : Prop :=
  ∀ (ps : Params) (p : Byte) (l r : List RxEvent) (g : CanFrame), AllSkipped p l →
    awaitAnswer ps p (l ++ r) = awaitAnswer ps p r ∧ awaitAnswer ps p l = .err .timeoutError ∧
      (classify (checks g p) ≠ .skip →
        awaitAnswer ps p (l ++ .frame g :: r) = awaitAnswer ps p [.frame g])

/-- 60_exceptions.md R182: the errors a query can report. -/
def Obligations.QueryErrors : Prop :=
  ∀ (ps : Params) (p : Byte) (o : TransportInput) (e : Error), queryResult ps p o = .err e →
    e ∈ [Error.protocolError .malformedLength, .protocolError .wrongService, .decodeError, .unsupportedPid,
      .timeoutError, .transportError]

/-- 43_query_sequencer.md R166: the end-to-end properties of the source. -/
def Obligations.SourceEndToEnd : Prop :=
  ∀ (ps : Params), ps.valid = true →
    (∀ (e : BitVec 3) (d4 d5 d6 d7 : Byte) (l : List RxEvent),
      queryResult ps 0x2F
          ⟨true, .frame ⟨0b11111101#8 ++ e, 8, ⟨0x03, 0x41, 0x2F, 0x80, d4, d5, d6, d7⟩⟩ :: l⟩ =
        .ok (.fuelLevelPercent (12800 / 255))) ∧
    (∀ p, queryResult ps p ⟨true, []⟩ = .err .timeoutError) ∧
    (∀ o1 o2, (sessionResult ps ⟨true, []⟩ o1 o2).1.res0 = .done (.err .timeoutError) ∧
      (sessionResult ps ⟨true, []⟩ o1 o2).1.res1 = .done (queryResult ps 0x2F o1)) ∧
    (∀ (p : Byte) (g : CanFrame) (l : List RxEvent), idOkAt g.arbitrationId = false →
      awaitAnswer ps p (.frame g :: l) = awaitAnswer ps p l)

/-- 43_query_sequencer.md R162: each slot is its own query's outcome; only a `TransportError` keeps a later one from
running. -/
def Obligations.SessionIsolation : Prop :=
  ∀ (ps : Params) (o0 o1 o2 : TransportInput),
    let q0 := queryResult ps ps.pidStd o0
    let q1 := queryResult ps 0x2F o1
    let q2 := queryResult ps ps.pidRuntime o2
    let r := (sessionResult ps o0 o1 o2).1
    r.res0 = .done q0 ∧ (r.res1 = if q0 = .err .transportError then .notAttempted else .done q1) ∧
      (r.res2 = if q0 = .err .transportError ∨ q1 = .err .transportError then .notAttempted else .done q2)

/-- 60_exceptions.md R187: nothing overwrites the result slots but a session, and 43_query_sequencer.md R164: nothing
opens or closes the connection but its own steps. -/
def Obligations.ResultsKept : Prop :=
  ∀ (s t : State) (a : Act), s.resetAsserted = false → s.nextAct = some a → step s = .next t →
    (a ≠ .session → (∀ k, a ≠ .sessionStore k) → t.res = s.res) ∧
      (a ≠ .openConn → a ≠ .closeConn → a ≠ .sessionOpen → t.conn = s.conn)

/-- 43_query_sequencer.md R151, R154, R156, R159: from any state with `QST = Idle` and the connection open, the micro
steps of `QUERY p` end in the outcome of the query on the oracle's inputs, having sent at most the one request. That
these inputs are the head of `oracle`, taken at the send, is the model's choice (log entries 5 and 6), as is how `DECP`'s
outcome is learned (log entry 32). -/
def Obligations.QueryRefines : Prop :=
  ∀ (s : State) (p : Byte) (o : TransportInput) (os : List TransportInput) (h : List Act),
    s.rstIn = [] → s.seq = [] → s.host = .query p :: h → s.conn = .opened → s.qst = .idle → s.oracle = o :: os →
    ∃ n t, Host.Core.run Sys2Proof.core n s = .next t ∧ t.qout = queryResult s.params p o ∧
      t.qst = endState (queryResult s.params p o) ∧ t.qpid = p ∧ t.seq = [] ∧ t.host = h ∧ t.oracle = os ∧
      t.conn = .opened ∧ t.params = s.params ∧ t.res = s.res ∧ t.six = s.six ∧
      t.sent = s.sent ++
        (if o.sendOk then
          [⟨0x7DF, 8, ⟨0x02, 0x01, p, s.params.pad, s.params.pad, s.params.pad, s.params.pad, s.params.pad⟩⟩]
        else [])

/-- 43_query_sequencer.md R161 to R164, 70_reset_and_hazards.md R213: the micro steps of `SESSION` end with the results
and `SIX` of the session on the oracle's inputs, and the connection closed, when the connection opens. The model's
choices it rests on: the slots are `NotAttempted` from the start of the session, whatever they held (log entry 13); one
oracle input is taken at each send (log entries 5 and 6); the open and the queue it leaves are inputs too (log entries 15
and 27), and `CONN` is not looked at before it (log entry 29). -/
def Obligations.SessionRefines : Prop :=
  ∀ (s : State) (o0 o1 o2 : TransportInput) (os : List TransportInput) (q : List RxEvent)
      (bs : List OpenInput) (h : List Act),
    s.rstIn = [] → s.seq = [] → s.host = .session :: h → s.qst = .idle → s.opens = ⟨true, q⟩ :: bs →
    s.oracle = o0 :: o1 :: o2 :: os →
    ∃ n t, Host.Core.run Sys2Proof.core n s = .next t ∧ (t.res, t.six) = sessionResult s.params o0 o1 o2 ∧
      t.SessionEnded ∧ t.answer = .results t.res ∧ t.qst = .idle ∧ t.seq = [] ∧ t.host = h ∧ t.params = s.params

/-- 93_implementation_defined.md U16: a session whose connection does not open ends at once with `TransportError` and
every slot `NotAttempted`. The model's choices it rests on: an open can fail, and `SIX` then keeps its value (log entry
15); it closes a connection already open (log entry 29); `RXQ` is kept across it, where U14 lets it be any value (log
entries 27 and 28, 28 unsafe); `QST` is not looked at, so there is no premise on it (log entry 30); the list the act is
taken from is log entry 7. -/
def Obligations.SessionOpenFails : Prop :=
  ∀ (s : State) (q : List RxEvent) (bs : List OpenInput) (h : List Act),
    s.rstIn = [] → s.seq = [] → s.host = .session :: h → s.opens = ⟨false, q⟩ :: bs →
    Host.Core.run Sys2Proof.core 2 s =
      .next { s with
        host := h, opens := bs, res := ⟨.notAttempted, .notAttempted, .notAttempted⟩, conn := .closed
        answer := .error .transportError }

end
end

