-- ==== Sys2Proof/Laws/Decode.lean ====
section
/-! SUPPORT. Lemmas on frame words and on the closed set of pids, cited by proofs about the decoder. -/

namespace Sys2Proof

/-- Unpacking reads every field where packing put it (30_encoding.md R70). -/
theorem Frame.unpack_pack (f : Frame) : Frame.unpack f.pack = f := by
  obtain ⟨id, dlc, d0, d1, d2, d3, d4, d5, d6, d7⟩ := f
  simp only [Frame.unpack, Frame.pack, Frame.mk.injEq, FrameData.mk.injEq]
  refine ⟨?_, ?_, ?_, ?_, ?_, ?_, ?_, ?_, ?_, ?_⟩ <;>
    repeat' first
      | rw [BitVec.extractLsb'_append_eq_of_le (by decide)]
      | rw [BitVec.extractLsb'_append_eq_of_add_le (by decide)]
      | exact BitVec.extractLsb'_eq_self

/-- No bit of a frame word is dropped (30_encoding.md R70). -/
theorem Frame.pack_unpack (w : FrameWord) : (Frame.unpack w).pack = w := by
  simp only [Frame.unpack, Frame.pack]
  repeat rw [BitVec.extractLsb'_append_extractLsb'_eq_extractLsb' (by decide)]
  exact BitVec.extractLsb'_eq_self

/-- Masking a frame word masks its fields (30_encoding.md R84). -/
theorem Frame.pack_and (f g : Frame) :
    f.pack &&& g.pack =
      Frame.pack ⟨f.id &&& g.id, f.dlc &&& g.dlc,
        ⟨f.data.d0 &&& g.data.d0, f.data.d1 &&& g.data.d1, f.data.d2 &&& g.data.d2, f.data.d3 &&& g.data.d3,
         f.data.d4 &&& g.data.d4, f.data.d5 &&& g.data.d5, f.data.d6 &&& g.data.d6, f.data.d7 &&& g.data.d7⟩⟩ := by
  unfold Frame.pack
  repeat rw [← BitVec.and_append]

theorem idInRange_iff (id : ArbId) : idInRange id = true ↔ 0x7E8 ≤ id.toNat ∧ id.toNat ≤ 0x7EF := by
  simp [idInRange, Config.rspIdLo, Config.rspIdHi, BitVec.le_def]

/-- Every response frame has an id in the response range (30_encoding.md R73). -/
theorem idInRange_responseFrame (pid : Byte) (f : RspFields) : idInRange (responseFrame pid f).id = true := by
  have h : ∀ e : BitVec 3, idInRange ((0b11111101#8) ++ e) = true := by decide
  exact h f.ecu

theorem responseFrame_id_ne_reqId (pid : Byte) (f : RspFields) : (responseFrame pid f).id ≠ Config.reqId := by
  have h : ∀ e : BitVec 3, ((0b11111101#8) ++ e : BitVec 11) ≠ Config.reqId := by decide
  exact h f.ecu

/-- The fields of a response frame are the ones it was built from (30_encoding.md R74). -/
theorem rspFields_responseFrame (pid : Byte) (f : RspFields) : (responseFrame pid f).rspFields = f := by
  have h : ∀ e : BitVec 3, ((0b11111101#8) ++ e : BitVec 11).extractLsb' 0 3 = e := by decide
  obtain ⟨ecu, dlc, n, d3, d4, d5, d6, d7⟩ := f
  simp [Frame.rspFields, responseFrame, h]

/-- An id in the response range is `0b11111101` and the ECU index (30_encoding.md R73). -/
theorem id_of_inRange (id : ArbId) (h : idInRange id = true) : (0b11111101#8) ++ id.extractLsb' 0 3 = id := by
  have : ∀ e : BitVec 11, idInRange e = true → (0b11111101#8) ++ e.extractLsb' 0 3 = e := by decide +kernel
  exact this id h

/-- A pid of the closed set is the pid of its kind (42_pid_decode.md R131). -/
theorem pidOf_of_kindOf {p : Params} {b : Byte} {k : PidKind} (h : p.kindOf b = some k) : p.pidOf k = b := by
  unfold Params.kindOf at h
  split at h
  · cases h; simp_all [Params.pidOf]
  · split at h
    · cases h; simp_all [Params.pidOf]
    · split at h
      · cases h; simp_all [Params.pidOf]
      · cases h

/-- With pairwise distinct pids each kind's pid selects that kind (00_scope.md R7, 42_pid_decode.md R131). -/
theorem kindOf_pidOf {p : Params} (h : p.valid = true) (k : PidKind) : p.kindOf (p.pidOf k) = some k := by
  simp only [Params.valid, bne_iff_ne, Bool.and_eq_true, ne_eq] at h
  obtain ⟨⟨h1, h2⟩, h3⟩ := h
  cases k
  · simp [Params.kindOf, Params.pidOf]
  · simp [Params.kindOf, Params.pidOf, Ne.symm h1]
  · simp [Params.kindOf, Params.pidOf, h2, Ne.symm h3]

theorem kindOf_eq_none_iff (p : Params) (b : Byte) :
    p.kindOf b = none ↔ b ≠ p.pidStd ∧ b ≠ Config.pidFuel ∧ b ≠ p.pidRuntime := by
  unfold Params.kindOf
  by_cases h1 : b = p.pidStd <;> by_cases h2 : b = Config.pidFuel <;> by_cases h3 : b = p.pidRuntime <;> simp_all

/-- The constraints of a response row (30_encoding.md R77). -/
theorem fits_iff (f : RspFields) (lo : Nat) :
    f.fits lo = true ↔
      f.dlc.toNat ≤ 8 ∧ lo ≤ f.n.toNat ∧ f.n.toNat ≤ 6 ∧ f.n.toNat + 1 ≤ f.dlc.toNat := by
  unfold RspFields.fits Config.frameBytes Config.maxPayload
  rw [Bool.and_eq_true, Bool.and_eq_true, Bool.and_eq_true, decide_eq_true_iff, decide_eq_true_iff,
    decide_eq_true_iff, decide_eq_true_iff, and_assoc, and_assoc]

end Sys2Proof
end

