-- ==== Sys2Proof/Laws/Codec.lean ====
section
/-! SUPPORT. One lemma per function of the codec and of the status layout: what it gives, in plain arithmetic. -/

namespace Sys2Proof.Machine

/-! ### The data field -/

theorem byte?_zero (f : CanFrame) : CanFrame.byte? f 0 = if 1 ≤ f.dlc.val then some f.data.d0 else none := by
  unfold CanFrame.byte? CanFrame.memRead
  by_cases h : 0 + 1 ≤ f.dlc.val <;> simp_all [dataBytes]

theorem byte?_one (f : CanFrame) : CanFrame.byte? f 1 = if 2 ≤ f.dlc.val then some f.data.d1 else none := by
  unfold CanFrame.byte? CanFrame.memRead
  by_cases h : 1 + 1 ≤ f.dlc.val <;> simp_all [dataBytes]

theorem byte?_two (f : CanFrame) : CanFrame.byte? f 2 = if 3 ≤ f.dlc.val then some f.data.d2 else none := by
  unfold CanFrame.byte? CanFrame.memRead
  by_cases h : 2 + 1 ≤ f.dlc.val <;> simp_all [dataBytes]

/-- The four checks as plain arithmetic on the frame (41_frame_decode.md R112). -/
theorem checks_eq (f : CanFrame) (e : Byte) :
    checks f e =
      { idOk := idOkAt f.arbitrationId, lenOk := lenOkAt f.dlc.val f.data, svcOk := svcOkAt f.dlc.val f.data,
        pidOk := pidOkAt f.dlc.val f.data e } := by
  have hid : idInRange f.arbitrationId = idOkAt f.arbitrationId := by
    simp [idInRange, idOkAt, Config.rspIdLo, Config.rspIdHi, BitVec.le_def]
  unfold checks
  rw [byte?_zero, byte?_one, byte?_two, hid]
  congr 1
  · by_cases h : 1 ≤ f.dlc.val
    · rw [if_pos h, Bool.eq_iff_iff]; simp [lengthOk, lenOkAt, Config.maxPayload, h]; intros; exact decide_eq_true_iff
    · rw [if_neg h]; simp [lenOkAt, h]
  · by_cases h : 2 ≤ f.dlc.val
    · rw [if_pos h]; simp [svcOkAt, Config.sidRsp, Config.sidReq, Config.sidOffset, h]
    · rw [if_neg h]; simp [svcOkAt, h]
  · by_cases h : 3 ≤ f.dlc.val
    · rw [if_pos h]; simp [pidOkAt, h]
    · rw [if_neg h]; simp [pidOkAt, h]

theorem lenOkAt_iff (n : Nat) (d : FrameData) :
    lenOkAt n d = true ↔ 2 ≤ d.d0.toNat ∧ d.d0.toNat ≤ 6 ∧ d.d0.toNat + 1 ≤ n := by
  simp [lenOkAt]
  omega

/-- A well-formed length byte makes the payload read a defined one (20_memory.md R52, 41_frame_decode.md R114). -/
theorem payload_of_lenOk {f : CanFrame} (h : lenOkAt f.dlc.val f.data = true) :
    CanFrame.memRead f 3 (f.data.d0.toNat - 2) = some (CanFrame.payload f) ∧
      CanFrame.payload f =
        [f.data.d3, f.data.d4, f.data.d5, f.data.d6].take (f.data.d0.toNat - 2) := by
  rw [lenOkAt_iff] at h
  have h3 : 3 + (f.data.d0.toNat - 2) ≤ f.dlc.val := by omega
  unfold CanFrame.payload CanFrame.memRead
  rw [if_pos h3]
  refine ⟨rfl, ?_⟩
  have : f.data.d0.toNat - 2 = 0 ∨ f.data.d0.toNat - 2 = 1 ∨ f.data.d0.toNat - 2 = 2 ∨
      f.data.d0.toNat - 2 = 3 ∨ f.data.d0.toNat - 2 = 4 := by omega
  rcases this with h | h | h | h | h <;> simp [h, dataBytes]

/-! ### `DecodeResponse` -/

theorem firstFailure_eq_none_iff (f : CheckFlags) : firstFailure f = none ↔ f = allFlags := by
  obtain ⟨a, b, c, d⟩ := f
  cases a <;> cases b <;> cases c <;> cases d <;> simp [firstFailure, allFlags]

/-- Success is all four flags, and then these are the fields (41_frame_decode.md R110). -/
theorem decodeResponse_ok_iff (f : CanFrame) (e : Byte) (r : ObdResponse) :
    decodeResponse f e = .ok r ↔
      checks f e = allFlags ∧ r = { serviceId := f.data.d1, pid := f.data.d2, payload := CanFrame.payload f } := by
  unfold decodeResponse
  split
  · rename_i k h
    have : checks f e ≠ allFlags := fun h' => by rw [(firstFailure_eq_none_iff _).2 h'] at h; cases h
    simp [this]
  · rename_i h
    simp [(firstFailure_eq_none_iff _).1 h, eq_comm]

theorem decodeResponse_err_iff (f : CanFrame) (e : Byte) (x : Error) :
    decodeResponse f e = .err x ↔ ∃ k, firstFailure (checks f e) = some k ∧ x = .protocolError k := by
  unfold decodeResponse
  cases h : firstFailure (checks f e) <;> simp [eq_comm]

/-- What a response that was built satisfies (10_state.md R24, 41_frame_decode.md R114). -/
theorem decodeResponse_ok_facts {f : CanFrame} {e : Byte} {r : ObdResponse} (h : decodeResponse f e = .ok r) :
    r.serviceId = 0x41 ∧ r.pid = e ∧ r.payload.length = f.data.d0.toNat - 2 ∧ r.payload.length ≤ 4 := by
  obtain ⟨hc, rfl⟩ := (decodeResponse_ok_iff f e r).1 h
  rw [checks_eq] at hc
  simp only [allFlags, CheckFlags.mk.injEq] at hc
  obtain ⟨-, hl, hs, hp⟩ := hc
  have hpl := (payload_of_lenOk hl).2
  have hn := (lenOkAt_iff _ _).1 hl
  simp only [svcOkAt, Bool.and_eq_true, beq_iff_eq] at hs
  simp only [pidOkAt, Bool.and_eq_true, beq_iff_eq] at hp
  refine ⟨hs.2, hp.2, ?_, ?_⟩
  · rw [hpl]; simp; omega
  · rw [hpl]; simp

/-! ### `DecodePid` -/

/-- The clamp never changes the value (42_pid_decode.md R135). -/
theorem fuelPercent_eq (a : Byte) : fuelPercent a = 100 * (a.toNat : Rat) / 255 := by
  have h1 : (a.toNat : Rat) ≤ 255 := by exact_mod_cast Nat.le_of_lt_succ a.isLt
  have h0 : (0 : Rat) ≤ a.toNat := Nat.cast_nonneg _
  unfold fuelPercent
  rw [max_eq_left (by positivity), min_eq_left (by linarith)]

theorem fuelPercent_range (a : Byte) : 0 ≤ fuelPercent a ∧ fuelPercent a ≤ 100 := by
  unfold fuelPercent
  exact ⟨le_min (le_max_right _ _) (by norm_num), min_le_right _ _⟩

theorem beValue_le (a b : Byte) : beValue a b ≤ 65535 := by
  have := a.isLt; have := b.isLt; unfold beValue; omega

/-- A formula succeeds exactly on a payload that is long enough (42_pid_decode.md R133). -/
theorem decodeAs_err_iff (p : Params) (k : PidKind) (s : List Byte) (e : Error) :
    decodeAs p k s = .err e ↔ s.length < k.need ∧ e = .decodeError := by
  rcases k <;> rcases s with _ | ⟨a, _ | ⟨b, t⟩⟩ <;> simp [decodeAs, PidKind.need, eq_comm]

/-- Every reading lies in its documented range (10_state.md R26). -/
theorem decodeAs_inRange {p : Params} {k : PidKind} {s : List Byte} {v : Reading} (h : decodeAs p k s = .ok v) :
    v.InRange := by
  rcases k <;> rcases s with _ | ⟨a, _ | ⟨b, t⟩⟩ <;> simp [decodeAs] at h <;> subst h
  any_goals exact trivial
  any_goals exact fuelPercent_range a
  exact beValue_le a b

theorem decodePid_inRange {p : Params} {b : Byte} {s : List Byte} {v : Reading} (h : decodePid p b s = .ok v) :
    v.InRange := by
  unfold decodePid at h
  split at h
  · cases h
  · exact decodeAs_inRange h

/-- Only these two errors (42_pid_decode.md R141). -/
theorem decodePid_err {p : Params} {b : Byte} {s : List Byte} {e : Error} (h : decodePid p b s = .err e) :
    e = .unsupportedPid ∨ e = .decodeError := by
  unfold decodePid at h
  split at h
  · cases h; exact .inl rfl
  · exact .inr ((decodeAs_err_iff _ _ _ _).1 h).2

/-- The reading group gives back the reading that was put into it, `a` being the first payload byte
(10_state.md R31, 42_pid_decode.md R137). -/
theorem reading?_ofReading {p : Params} {k : PidKind} {a : Byte} {t : List Byte} {v : Reading}
    (h : decodeAs p k (a :: t) = .ok v) : (RdgGroup.ofReading v a).reading? = some v := by
  rcases k with _ | _ | _
  · simp [decodeAs] at h
    subst h
    have hc : ((a.setWidth 16 : BitVec 16)).extractLsb' 0 8 = a := by
      apply BitVec.eq_of_toNat_eq
      have := a.isLt
      simp
      omega
    simp [RdgGroup.ofReading, RdgGroup.reading?, hc]
  · simp [decodeAs] at h
    subst h
    have ha := a.isLt
    have hv : 100 * a.toNat % 65536 = 100 * a.toNat := by omega
    simp [RdgGroup.ofReading, RdgGroup.reading?, fuelPercent_eq, hv]
  · rcases t with _ | ⟨b, t⟩
    · simp [decodeAs] at h
    · simp [decodeAs] at h
      subst h
      have := beValue_le a b
      simp [RdgGroup.ofReading, RdgGroup.reading?]
      omega

/-- The bytes of a payload register after a response is written (10_state.md R30). -/
theorem write_payload {old : RspGroup} {r : ObdResponse} (h : r.payload.length ≤ 4) :
    (old.write r).payload = r.payload := by
  obtain ⟨sv, pid, s⟩ := r
  rcases s with _ | ⟨a, _ | ⟨b, _ | ⟨c, _ | ⟨d, _ | ⟨e, t⟩⟩⟩⟩⟩
  all_goals first
    | (simp at h; omega)
    | simp [RspGroup.write, RspGroup.payload, Payload.write, plBytes]

/-! ### `STAT` -/

theorem errField_statWord (op : BitVec 2) (chk : BitVec 4) (kind : BitVec 2) (err : BitVec 3) :
    errField (statWord op chk kind err) = err := by
  unfold errField statWord
  rw [BitVec.extractLsb'_append_eq_of_add_le (by decide), BitVec.extractLsb'_eq_self]

theorem kindField_statWord (op : BitVec 2) (chk : BitVec 4) (kind : BitVec 2) (err : BitVec 3) :
    kindField (statWord op chk kind err) = kind := by
  unfold kindField statWord
  rw [BitVec.extractLsb'_append_eq_of_le (by decide), BitVec.extractLsb'_append_eq_of_add_le (by decide),
    BitVec.extractLsb'_eq_self]

theorem chkField_statWord (op : BitVec 2) (chk : BitVec 4) (kind : BitVec 2) (err : BitVec 3) :
    chkField (statWord op chk kind err) = chk := by
  unfold chkField statWord
  rw [BitVec.extractLsb'_append_eq_of_le (by decide), BitVec.extractLsb'_append_eq_of_le (by decide),
    BitVec.extractLsb'_append_eq_of_add_le (by decide), BitVec.extractLsb'_eq_self]

theorem opField_statWord (op : BitVec 2) (chk : BitVec 4) (kind : BitVec 2) (err : BitVec 3) :
    opField (statWord op chk kind err) = op := by
  unfold opField statWord
  rw [BitVec.extractLsb'_append_eq_of_le (by decide), BitVec.extractLsb'_append_eq_of_le (by decide),
    BitVec.extractLsb'_append_eq_of_le (by decide), BitVec.extractLsb'_eq_self]

/-- The sequencer reads back the flags a command wrote (43_query_sequencer.md R155). -/
theorem flagsOfStat_statErr (c : Command) (f : CheckFlags) (e : Error) : flagsOfStat (statErr c f e) = f := by
  obtain ⟨a, b, c', d⟩ := f
  rcases c <;> rcases e with _ | k | _ | _ | _ | _ | _ <;> (try rcases k) <;> cases a <;> cases b <;> cases c' <;>
    cases d <;> rfl

theorem flagsOfStat_statOk (c : Command) (f : CheckFlags) : flagsOfStat (statOk c f) = f := by
  obtain ⟨a, b, c', d⟩ := f
  rcases c <;> cases a <;> cases b <;> cases c' <;> cases d <;> rfl

/-- The sequencer reads back the error a command raised (43_query_sequencer.md R156). -/
theorem errorOfStat_statErr (c : Command) (f : CheckFlags) (e : Error) : errorOfStat (statErr c f e) = some e := by
  unfold errorOfStat statErr
  rw [errField_statWord, kindField_statWord]
  rcases e with _ | k | _ | _ | _ | _ | _ <;> (try rcases k) <;> rfl

end Sys2Proof.Machine
end

