-- ==== Sys2Proof/Laws/State.lean ====
section
/-! SUPPORT. What each update of the state leaves in each field, one lemma per field per update. -/

namespace Sys2Proof.Machine

variable (s : State)

/-! ### Fields after downstream invalidation -/

@[simp] theorem invalidate_params : s.invalidate.params = s.params := rfl
@[simp] theorem invalidate_pidr : s.invalidate.pidr = s.pidr := rfl
@[simp] theorem invalidate_pv : s.invalidate.pv = s.pv := rfl
@[simp] theorem invalidate_frm : s.invalidate.frm = s.frm := rfl
@[simp] theorem invalidate_fv : s.invalidate.fv = s.fv := rfl
@[simp] theorem invalidate_rsp : s.invalidate.rsp = s.rsp := rfl
@[simp] theorem invalidate_rv : s.invalidate.rv = false := rfl
@[simp] theorem invalidate_rdg : s.invalidate.rdg = s.rdg := rfl
@[simp] theorem invalidate_dv : s.invalidate.dv = false := rfl
@[simp] theorem invalidate_cmd : s.invalidate.cmd = s.cmd := rfl
@[simp] theorem invalidate_stat : s.invalidate.stat = s.stat := rfl
@[simp] theorem invalidate_qst : s.invalidate.qst = s.qst := rfl
@[simp] theorem invalidate_qpid : s.invalidate.qpid = s.qpid := rfl
@[simp] theorem invalidate_qout : s.invalidate.qout = s.qout := rfl
@[simp] theorem invalidate_six : s.invalidate.six = s.six := rfl
@[simp] theorem invalidate_res : s.invalidate.res = s.res := rfl
@[simp] theorem invalidate_conn : s.invalidate.conn = s.conn := rfl
@[simp] theorem invalidate_rxq : s.invalidate.rxq = s.rxq := rfl
@[simp] theorem invalidate_oracle : s.invalidate.oracle = s.oracle := rfl
@[simp] theorem invalidate_oracleIx : s.invalidate.oracleIx = s.oracleIx := rfl
@[simp] theorem invalidate_opens : s.invalidate.opens = s.opens := rfl
@[simp] theorem invalidate_sent : s.invalidate.sent = s.sent := rfl
@[simp] theorem invalidate_lastFrame : s.invalidate.lastFrame = s.lastFrame := rfl
@[simp] theorem invalidate_answer : s.invalidate.answer = s.answer := rfl
@[simp] theorem invalidate_seq : s.invalidate.seq = s.seq := rfl
@[simp] theorem invalidate_host : s.invalidate.host = s.host := rfl
@[simp] theorem invalidate_rstIn : s.invalidate.rstIn = s.rstIn := rfl

/-! ### Fields after `LDPID` -/

@[simp] theorem ldPid_params (p : Byte) : (s.ldPid p).params = s.params := rfl
@[simp] theorem ldPid_pidr (p : Byte) : (s.ldPid p).pidr = p := rfl
@[simp] theorem ldPid_pv (p : Byte) : (s.ldPid p).pv = true := rfl
@[simp] theorem ldPid_frm (p : Byte) : (s.ldPid p).frm = s.frm := rfl
@[simp] theorem ldPid_fv (p : Byte) : (s.ldPid p).fv = s.fv := rfl
@[simp] theorem ldPid_rsp (p : Byte) : (s.ldPid p).rsp = s.rsp := rfl
@[simp] theorem ldPid_rv (p : Byte) : (s.ldPid p).rv = false := rfl
@[simp] theorem ldPid_rdg (p : Byte) : (s.ldPid p).rdg = s.rdg := rfl
@[simp] theorem ldPid_dv (p : Byte) : (s.ldPid p).dv = false := rfl
@[simp] theorem ldPid_cmd (p : Byte) : (s.ldPid p).cmd = s.cmd := rfl
@[simp] theorem ldPid_stat (p : Byte) : (s.ldPid p).stat = s.stat := rfl
@[simp] theorem ldPid_qst (p : Byte) : (s.ldPid p).qst = s.qst := rfl
@[simp] theorem ldPid_qpid (p : Byte) : (s.ldPid p).qpid = s.qpid := rfl
@[simp] theorem ldPid_qout (p : Byte) : (s.ldPid p).qout = s.qout := rfl
@[simp] theorem ldPid_six (p : Byte) : (s.ldPid p).six = s.six := rfl
@[simp] theorem ldPid_res (p : Byte) : (s.ldPid p).res = s.res := rfl
@[simp] theorem ldPid_conn (p : Byte) : (s.ldPid p).conn = s.conn := rfl
@[simp] theorem ldPid_rxq (p : Byte) : (s.ldPid p).rxq = s.rxq := rfl
@[simp] theorem ldPid_oracle (p : Byte) : (s.ldPid p).oracle = s.oracle := rfl
@[simp] theorem ldPid_oracleIx (p : Byte) : (s.ldPid p).oracleIx = s.oracleIx := rfl
@[simp] theorem ldPid_opens (p : Byte) : (s.ldPid p).opens = s.opens := rfl
@[simp] theorem ldPid_sent (p : Byte) : (s.ldPid p).sent = s.sent := rfl
@[simp] theorem ldPid_lastFrame (p : Byte) : (s.ldPid p).lastFrame = s.lastFrame := rfl
@[simp] theorem ldPid_answer (p : Byte) : (s.ldPid p).answer = s.answer := rfl
@[simp] theorem ldPid_seq (p : Byte) : (s.ldPid p).seq = s.seq := rfl
@[simp] theorem ldPid_host (p : Byte) : (s.ldPid p).host = s.host := rfl
@[simp] theorem ldPid_rstIn (p : Byte) : (s.ldPid p).rstIn = s.rstIn := rfl

/-! ### Fields after `LDFRM` -/

@[simp] theorem ldFrm_params (f : Frame) : (s.ldFrm f).params = s.params := rfl
@[simp] theorem ldFrm_pidr (f : Frame) : (s.ldFrm f).pidr = s.pidr := rfl
@[simp] theorem ldFrm_pv (f : Frame) : (s.ldFrm f).pv = s.pv := rfl
@[simp] theorem ldFrm_frm (f : Frame) : (s.ldFrm f).frm = f := rfl
@[simp] theorem ldFrm_fv (f : Frame) : (s.ldFrm f).fv = true := rfl
@[simp] theorem ldFrm_rsp (f : Frame) : (s.ldFrm f).rsp = s.rsp := rfl
@[simp] theorem ldFrm_rv (f : Frame) : (s.ldFrm f).rv = false := rfl
@[simp] theorem ldFrm_rdg (f : Frame) : (s.ldFrm f).rdg = s.rdg := rfl
@[simp] theorem ldFrm_dv (f : Frame) : (s.ldFrm f).dv = false := rfl
@[simp] theorem ldFrm_cmd (f : Frame) : (s.ldFrm f).cmd = s.cmd := rfl
@[simp] theorem ldFrm_stat (f : Frame) : (s.ldFrm f).stat = s.stat := rfl
@[simp] theorem ldFrm_qst (f : Frame) : (s.ldFrm f).qst = s.qst := rfl
@[simp] theorem ldFrm_qpid (f : Frame) : (s.ldFrm f).qpid = s.qpid := rfl
@[simp] theorem ldFrm_qout (f : Frame) : (s.ldFrm f).qout = s.qout := rfl
@[simp] theorem ldFrm_six (f : Frame) : (s.ldFrm f).six = s.six := rfl
@[simp] theorem ldFrm_res (f : Frame) : (s.ldFrm f).res = s.res := rfl
@[simp] theorem ldFrm_conn (f : Frame) : (s.ldFrm f).conn = s.conn := rfl
@[simp] theorem ldFrm_rxq (f : Frame) : (s.ldFrm f).rxq = s.rxq := rfl
@[simp] theorem ldFrm_oracle (f : Frame) : (s.ldFrm f).oracle = s.oracle := rfl
@[simp] theorem ldFrm_oracleIx (f : Frame) : (s.ldFrm f).oracleIx = s.oracleIx := rfl
@[simp] theorem ldFrm_opens (f : Frame) : (s.ldFrm f).opens = s.opens := rfl
@[simp] theorem ldFrm_sent (f : Frame) : (s.ldFrm f).sent = s.sent := rfl
@[simp] theorem ldFrm_lastFrame (f : Frame) : (s.ldFrm f).lastFrame = s.lastFrame := rfl
@[simp] theorem ldFrm_answer (f : Frame) : (s.ldFrm f).answer = s.answer := rfl
@[simp] theorem ldFrm_seq (f : Frame) : (s.ldFrm f).seq = s.seq := rfl
@[simp] theorem ldFrm_host (f : Frame) : (s.ldFrm f).host = s.host := rfl
@[simp] theorem ldFrm_rstIn (f : Frame) : (s.ldFrm f).rstIn = s.rstIn := rfl

/-! ### Fields after the write of `CMD` -/

@[simp] theorem writeCmd_params (c : CmdCode) : (s.writeCmd c).params = s.params := rfl
@[simp] theorem writeCmd_pidr (c : CmdCode) : (s.writeCmd c).pidr = s.pidr := rfl
@[simp] theorem writeCmd_pv (c : CmdCode) : (s.writeCmd c).pv = s.pv := rfl
@[simp] theorem writeCmd_frm (c : CmdCode) : (s.writeCmd c).frm = s.frm := rfl
@[simp] theorem writeCmd_fv (c : CmdCode) : (s.writeCmd c).fv = s.fv := rfl
@[simp] theorem writeCmd_rsp (c : CmdCode) : (s.writeCmd c).rsp = s.rsp := rfl
@[simp] theorem writeCmd_rv (c : CmdCode) : (s.writeCmd c).rv = s.rv := rfl
@[simp] theorem writeCmd_rdg (c : CmdCode) : (s.writeCmd c).rdg = s.rdg := rfl
@[simp] theorem writeCmd_dv (c : CmdCode) : (s.writeCmd c).dv = s.dv := rfl
@[simp] theorem writeCmd_cmd (c : CmdCode) : (s.writeCmd c).cmd = c := rfl
@[simp] theorem writeCmd_stat (c : CmdCode) : (s.writeCmd c).stat = s.stat := rfl
@[simp] theorem writeCmd_qst (c : CmdCode) : (s.writeCmd c).qst = s.qst := rfl
@[simp] theorem writeCmd_qpid (c : CmdCode) : (s.writeCmd c).qpid = s.qpid := rfl
@[simp] theorem writeCmd_qout (c : CmdCode) : (s.writeCmd c).qout = s.qout := rfl
@[simp] theorem writeCmd_six (c : CmdCode) : (s.writeCmd c).six = s.six := rfl
@[simp] theorem writeCmd_res (c : CmdCode) : (s.writeCmd c).res = s.res := rfl
@[simp] theorem writeCmd_conn (c : CmdCode) : (s.writeCmd c).conn = s.conn := rfl
@[simp] theorem writeCmd_rxq (c : CmdCode) : (s.writeCmd c).rxq = s.rxq := rfl
@[simp] theorem writeCmd_oracle (c : CmdCode) : (s.writeCmd c).oracle = s.oracle := rfl
@[simp] theorem writeCmd_oracleIx (c : CmdCode) : (s.writeCmd c).oracleIx = s.oracleIx := rfl
@[simp] theorem writeCmd_opens (c : CmdCode) : (s.writeCmd c).opens = s.opens := rfl
@[simp] theorem writeCmd_sent (c : CmdCode) : (s.writeCmd c).sent = s.sent := rfl
@[simp] theorem writeCmd_lastFrame (c : CmdCode) : (s.writeCmd c).lastFrame = s.lastFrame := rfl
@[simp] theorem writeCmd_answer (c : CmdCode) : (s.writeCmd c).answer = s.answer := rfl
@[simp] theorem writeCmd_seq (c : CmdCode) : (s.writeCmd c).seq = s.seq := rfl
@[simp] theorem writeCmd_host (c : CmdCode) : (s.writeCmd c).host = s.host := rfl
@[simp] theorem writeCmd_rstIn (c : CmdCode) : (s.writeCmd c).rstIn = s.rstIn := rfl

/-! ### Fields after a successful `ENC` -/

@[simp] theorem putRequest_params (f : CanFrame) : (s.putRequest f).params = s.params := rfl
@[simp] theorem putRequest_pidr (f : CanFrame) : (s.putRequest f).pidr = s.pidr := rfl
@[simp] theorem putRequest_pv (f : CanFrame) : (s.putRequest f).pv = s.pv := rfl
@[simp] theorem putRequest_frm (f : CanFrame) : (s.putRequest f).frm = CanFrame.toFrame f := rfl
@[simp] theorem putRequest_fv (f : CanFrame) : (s.putRequest f).fv = true := rfl
@[simp] theorem putRequest_rsp (f : CanFrame) : (s.putRequest f).rsp = s.rsp := rfl
@[simp] theorem putRequest_rv (f : CanFrame) : (s.putRequest f).rv = false := rfl
@[simp] theorem putRequest_rdg (f : CanFrame) : (s.putRequest f).rdg = s.rdg := rfl
@[simp] theorem putRequest_dv (f : CanFrame) : (s.putRequest f).dv = false := rfl
@[simp] theorem putRequest_cmd (f : CanFrame) : (s.putRequest f).cmd = s.cmd := rfl
@[simp] theorem putRequest_stat (f : CanFrame) : (s.putRequest f).stat = statOk .enc noFlags := rfl
@[simp] theorem putRequest_qst (f : CanFrame) : (s.putRequest f).qst = s.qst := rfl
@[simp] theorem putRequest_qpid (f : CanFrame) : (s.putRequest f).qpid = s.qpid := rfl
@[simp] theorem putRequest_qout (f : CanFrame) : (s.putRequest f).qout = s.qout := rfl
@[simp] theorem putRequest_six (f : CanFrame) : (s.putRequest f).six = s.six := rfl
@[simp] theorem putRequest_res (f : CanFrame) : (s.putRequest f).res = s.res := rfl
@[simp] theorem putRequest_conn (f : CanFrame) : (s.putRequest f).conn = s.conn := rfl
@[simp] theorem putRequest_rxq (f : CanFrame) : (s.putRequest f).rxq = s.rxq := rfl
@[simp] theorem putRequest_oracle (f : CanFrame) : (s.putRequest f).oracle = s.oracle := rfl
@[simp] theorem putRequest_oracleIx (f : CanFrame) : (s.putRequest f).oracleIx = s.oracleIx := rfl
@[simp] theorem putRequest_opens (f : CanFrame) : (s.putRequest f).opens = s.opens := rfl
@[simp] theorem putRequest_sent (f : CanFrame) : (s.putRequest f).sent = s.sent := rfl
@[simp] theorem putRequest_lastFrame (f : CanFrame) : (s.putRequest f).lastFrame = s.lastFrame := rfl
@[simp] theorem putRequest_answer (f : CanFrame) : (s.putRequest f).answer = s.answer := rfl
@[simp] theorem putRequest_seq (f : CanFrame) : (s.putRequest f).seq = s.seq := rfl
@[simp] theorem putRequest_host (f : CanFrame) : (s.putRequest f).host = s.host := rfl
@[simp] theorem putRequest_rstIn (f : CanFrame) : (s.putRequest f).rstIn = s.rstIn := rfl

/-! ### Fields after a successful `DECF` -/

@[simp] theorem putResponse_params (r : ObdResponse) : (s.putResponse r).params = s.params := rfl
@[simp] theorem putResponse_pidr (r : ObdResponse) : (s.putResponse r).pidr = s.pidr := rfl
@[simp] theorem putResponse_pv (r : ObdResponse) : (s.putResponse r).pv = s.pv := rfl
@[simp] theorem putResponse_frm (r : ObdResponse) : (s.putResponse r).frm = s.frm := rfl
@[simp] theorem putResponse_fv (r : ObdResponse) : (s.putResponse r).fv = s.fv := rfl
@[simp] theorem putResponse_rsp (r : ObdResponse) : (s.putResponse r).rsp = s.rsp.write r := rfl
@[simp] theorem putResponse_rv (r : ObdResponse) : (s.putResponse r).rv = true := rfl
@[simp] theorem putResponse_rdg (r : ObdResponse) : (s.putResponse r).rdg = s.rdg := rfl
@[simp] theorem putResponse_dv (r : ObdResponse) : (s.putResponse r).dv = false := rfl
@[simp] theorem putResponse_cmd (r : ObdResponse) : (s.putResponse r).cmd = s.cmd := rfl
@[simp] theorem putResponse_stat (r : ObdResponse) : (s.putResponse r).stat = statOk .decf allFlags := rfl
@[simp] theorem putResponse_qst (r : ObdResponse) : (s.putResponse r).qst = s.qst := rfl
@[simp] theorem putResponse_qpid (r : ObdResponse) : (s.putResponse r).qpid = s.qpid := rfl
@[simp] theorem putResponse_qout (r : ObdResponse) : (s.putResponse r).qout = s.qout := rfl
@[simp] theorem putResponse_six (r : ObdResponse) : (s.putResponse r).six = s.six := rfl
@[simp] theorem putResponse_res (r : ObdResponse) : (s.putResponse r).res = s.res := rfl
@[simp] theorem putResponse_conn (r : ObdResponse) : (s.putResponse r).conn = s.conn := rfl
@[simp] theorem putResponse_rxq (r : ObdResponse) : (s.putResponse r).rxq = s.rxq := rfl
@[simp] theorem putResponse_oracle (r : ObdResponse) : (s.putResponse r).oracle = s.oracle := rfl
@[simp] theorem putResponse_oracleIx (r : ObdResponse) : (s.putResponse r).oracleIx = s.oracleIx := rfl
@[simp] theorem putResponse_opens (r : ObdResponse) : (s.putResponse r).opens = s.opens := rfl
@[simp] theorem putResponse_sent (r : ObdResponse) : (s.putResponse r).sent = s.sent := rfl
@[simp] theorem putResponse_lastFrame (r : ObdResponse) : (s.putResponse r).lastFrame = s.lastFrame := rfl
@[simp] theorem putResponse_answer (r : ObdResponse) : (s.putResponse r).answer = s.answer := rfl
@[simp] theorem putResponse_seq (r : ObdResponse) : (s.putResponse r).seq = s.seq := rfl
@[simp] theorem putResponse_host (r : ObdResponse) : (s.putResponse r).host = s.host := rfl
@[simp] theorem putResponse_rstIn (r : ObdResponse) : (s.putResponse r).rstIn = s.rstIn := rfl

/-! ### Fields after a successful `DECP` -/

@[simp] theorem putReading_params (v : Reading) : (s.putReading v).params = s.params := rfl
@[simp] theorem putReading_pidr (v : Reading) : (s.putReading v).pidr = s.pidr := rfl
@[simp] theorem putReading_pv (v : Reading) : (s.putReading v).pv = s.pv := rfl
@[simp] theorem putReading_frm (v : Reading) : (s.putReading v).frm = s.frm := rfl
@[simp] theorem putReading_fv (v : Reading) : (s.putReading v).fv = s.fv := rfl
@[simp] theorem putReading_rsp (v : Reading) : (s.putReading v).rsp = s.rsp := rfl
@[simp] theorem putReading_rv (v : Reading) : (s.putReading v).rv = s.rv := rfl
@[simp] theorem putReading_rdg (v : Reading) : (s.putReading v).rdg = RdgGroup.ofReading v s.rsp.pl.pl0 := rfl
@[simp] theorem putReading_dv (v : Reading) : (s.putReading v).dv = true := rfl
@[simp] theorem putReading_cmd (v : Reading) : (s.putReading v).cmd = s.cmd := rfl
@[simp] theorem putReading_stat (v : Reading) : (s.putReading v).stat = statOk .decp noFlags := rfl
@[simp] theorem putReading_qst (v : Reading) : (s.putReading v).qst = s.qst := rfl
@[simp] theorem putReading_qpid (v : Reading) : (s.putReading v).qpid = s.qpid := rfl
@[simp] theorem putReading_qout (v : Reading) : (s.putReading v).qout = s.qout := rfl
@[simp] theorem putReading_six (v : Reading) : (s.putReading v).six = s.six := rfl
@[simp] theorem putReading_res (v : Reading) : (s.putReading v).res = s.res := rfl
@[simp] theorem putReading_conn (v : Reading) : (s.putReading v).conn = s.conn := rfl
@[simp] theorem putReading_rxq (v : Reading) : (s.putReading v).rxq = s.rxq := rfl
@[simp] theorem putReading_oracle (v : Reading) : (s.putReading v).oracle = s.oracle := rfl
@[simp] theorem putReading_oracleIx (v : Reading) : (s.putReading v).oracleIx = s.oracleIx := rfl
@[simp] theorem putReading_opens (v : Reading) : (s.putReading v).opens = s.opens := rfl
@[simp] theorem putReading_sent (v : Reading) : (s.putReading v).sent = s.sent := rfl
@[simp] theorem putReading_lastFrame (v : Reading) : (s.putReading v).lastFrame = s.lastFrame := rfl
@[simp] theorem putReading_answer (v : Reading) : (s.putReading v).answer = s.answer := rfl
@[simp] theorem putReading_seq (v : Reading) : (s.putReading v).seq = s.seq := rfl
@[simp] theorem putReading_host (v : Reading) : (s.putReading v).host = s.host := rfl
@[simp] theorem putReading_rstIn (v : Reading) : (s.putReading v).rstIn = s.rstIn := rfl

/-! ### Fields after `RDSTAT` -/

@[simp] theorem rdStat_params : s.rdStat.params = s.params := rfl
@[simp] theorem rdStat_pidr : s.rdStat.pidr = s.pidr := rfl
@[simp] theorem rdStat_pv : s.rdStat.pv = s.pv := rfl
@[simp] theorem rdStat_frm : s.rdStat.frm = s.frm := rfl
@[simp] theorem rdStat_fv : s.rdStat.fv = s.fv := rfl
@[simp] theorem rdStat_rsp : s.rdStat.rsp = s.rsp := rfl
@[simp] theorem rdStat_rv : s.rdStat.rv = s.rv := rfl
@[simp] theorem rdStat_rdg : s.rdStat.rdg = s.rdg := rfl
@[simp] theorem rdStat_dv : s.rdStat.dv = s.dv := rfl
@[simp] theorem rdStat_cmd : s.rdStat.cmd = s.cmd := rfl
@[simp] theorem rdStat_stat : s.rdStat.stat = s.stat := rfl
@[simp] theorem rdStat_qst : s.rdStat.qst = s.qst := rfl
@[simp] theorem rdStat_qpid : s.rdStat.qpid = s.qpid := rfl
@[simp] theorem rdStat_qout : s.rdStat.qout = s.qout := rfl
@[simp] theorem rdStat_six : s.rdStat.six = s.six := rfl
@[simp] theorem rdStat_res : s.rdStat.res = s.res := rfl
@[simp] theorem rdStat_conn : s.rdStat.conn = s.conn := rfl
@[simp] theorem rdStat_rxq : s.rdStat.rxq = s.rxq := rfl
@[simp] theorem rdStat_oracle : s.rdStat.oracle = s.oracle := rfl
@[simp] theorem rdStat_oracleIx : s.rdStat.oracleIx = s.oracleIx := rfl
@[simp] theorem rdStat_opens : s.rdStat.opens = s.opens := rfl
@[simp] theorem rdStat_sent : s.rdStat.sent = s.sent := rfl
@[simp] theorem rdStat_lastFrame : s.rdStat.lastFrame = s.lastFrame := rfl
@[simp] theorem rdStat_answer : s.rdStat.answer = .status s.stat := rfl
@[simp] theorem rdStat_seq : s.rdStat.seq = s.seq := rfl
@[simp] theorem rdStat_host : s.rdStat.host = s.host := rfl
@[simp] theorem rdStat_rstIn : s.rdStat.rstIn = s.rstIn := rfl

/-! ### Fields after the read of `CMD` -/

@[simp] theorem rdCmd_params : s.rdCmd.params = s.params := rfl
@[simp] theorem rdCmd_pidr : s.rdCmd.pidr = s.pidr := rfl
@[simp] theorem rdCmd_pv : s.rdCmd.pv = s.pv := rfl
@[simp] theorem rdCmd_frm : s.rdCmd.frm = s.frm := rfl
@[simp] theorem rdCmd_fv : s.rdCmd.fv = s.fv := rfl
@[simp] theorem rdCmd_rsp : s.rdCmd.rsp = s.rsp := rfl
@[simp] theorem rdCmd_rv : s.rdCmd.rv = s.rv := rfl
@[simp] theorem rdCmd_rdg : s.rdCmd.rdg = s.rdg := rfl
@[simp] theorem rdCmd_dv : s.rdCmd.dv = s.dv := rfl
@[simp] theorem rdCmd_cmd : s.rdCmd.cmd = s.cmd := rfl
@[simp] theorem rdCmd_stat : s.rdCmd.stat = s.stat := rfl
@[simp] theorem rdCmd_qst : s.rdCmd.qst = s.qst := rfl
@[simp] theorem rdCmd_qpid : s.rdCmd.qpid = s.qpid := rfl
@[simp] theorem rdCmd_qout : s.rdCmd.qout = s.qout := rfl
@[simp] theorem rdCmd_six : s.rdCmd.six = s.six := rfl
@[simp] theorem rdCmd_res : s.rdCmd.res = s.res := rfl
@[simp] theorem rdCmd_conn : s.rdCmd.conn = s.conn := rfl
@[simp] theorem rdCmd_rxq : s.rdCmd.rxq = s.rxq := rfl
@[simp] theorem rdCmd_oracle : s.rdCmd.oracle = s.oracle := rfl
@[simp] theorem rdCmd_oracleIx : s.rdCmd.oracleIx = s.oracleIx := rfl
@[simp] theorem rdCmd_opens : s.rdCmd.opens = s.opens := rfl
@[simp] theorem rdCmd_sent : s.rdCmd.sent = s.sent := rfl
@[simp] theorem rdCmd_lastFrame : s.rdCmd.lastFrame = s.lastFrame := rfl
@[simp] theorem rdCmd_answer : s.rdCmd.answer = .command s.cmd := rfl
@[simp] theorem rdCmd_seq : s.rdCmd.seq = s.seq := rfl
@[simp] theorem rdCmd_host : s.rdCmd.host = s.host := rfl
@[simp] theorem rdCmd_rstIn : s.rdCmd.rstIn = s.rstIn := rfl

/-! ### Fields after `receive` -/

@[simp] theorem transportReceive_params : s.transportReceive.params = s.params := rfl
@[simp] theorem transportReceive_pidr : s.transportReceive.pidr = s.pidr := rfl
@[simp] theorem transportReceive_pv : s.transportReceive.pv = s.pv := rfl
@[simp] theorem transportReceive_frm : s.transportReceive.frm = s.frm := rfl
@[simp] theorem transportReceive_fv : s.transportReceive.fv = s.fv := rfl
@[simp] theorem transportReceive_rsp : s.transportReceive.rsp = s.rsp := rfl
@[simp] theorem transportReceive_rv : s.transportReceive.rv = s.rv := rfl
@[simp] theorem transportReceive_rdg : s.transportReceive.rdg = s.rdg := rfl
@[simp] theorem transportReceive_dv : s.transportReceive.dv = s.dv := rfl
@[simp] theorem transportReceive_cmd : s.transportReceive.cmd = s.cmd := rfl
@[simp] theorem transportReceive_stat : s.transportReceive.stat = s.stat := rfl
@[simp] theorem transportReceive_qst : s.transportReceive.qst = s.qst := rfl
@[simp] theorem transportReceive_qpid : s.transportReceive.qpid = s.qpid := rfl
@[simp] theorem transportReceive_qout : s.transportReceive.qout = s.qout := rfl
@[simp] theorem transportReceive_six : s.transportReceive.six = s.six := rfl
@[simp] theorem transportReceive_res : s.transportReceive.res = s.res := rfl
@[simp] theorem transportReceive_conn : s.transportReceive.conn = s.conn := rfl
@[simp] theorem transportReceive_rxq : s.transportReceive.rxq = s.rxq.tail := rfl
@[simp] theorem transportReceive_oracle : s.transportReceive.oracle = s.oracle := rfl
@[simp] theorem transportReceive_oracleIx : s.transportReceive.oracleIx = s.oracleIx := rfl
@[simp] theorem transportReceive_opens : s.transportReceive.opens = s.opens := rfl
@[simp] theorem transportReceive_sent : s.transportReceive.sent = s.sent := rfl
@[simp] theorem transportReceive_lastFrame : s.transportReceive.lastFrame = s.lastFrame := rfl
@[simp] theorem transportReceive_answer : s.transportReceive.answer = .received s.nextRx := rfl
@[simp] theorem transportReceive_seq : s.transportReceive.seq = s.seq := rfl
@[simp] theorem transportReceive_host : s.transportReceive.host = s.host := rfl
@[simp] theorem transportReceive_rstIn : s.transportReceive.rstIn = s.rstIn := rfl

/-! ### Fields after an event arrives -/

@[simp] theorem arrive_params (e : RxEvent) : (s.arrive e).params = s.params := rfl
@[simp] theorem arrive_pidr (e : RxEvent) : (s.arrive e).pidr = s.pidr := rfl
@[simp] theorem arrive_pv (e : RxEvent) : (s.arrive e).pv = s.pv := rfl
@[simp] theorem arrive_frm (e : RxEvent) : (s.arrive e).frm = s.frm := rfl
@[simp] theorem arrive_fv (e : RxEvent) : (s.arrive e).fv = s.fv := rfl
@[simp] theorem arrive_rsp (e : RxEvent) : (s.arrive e).rsp = s.rsp := rfl
@[simp] theorem arrive_rv (e : RxEvent) : (s.arrive e).rv = s.rv := rfl
@[simp] theorem arrive_rdg (e : RxEvent) : (s.arrive e).rdg = s.rdg := rfl
@[simp] theorem arrive_dv (e : RxEvent) : (s.arrive e).dv = s.dv := rfl
@[simp] theorem arrive_cmd (e : RxEvent) : (s.arrive e).cmd = s.cmd := rfl
@[simp] theorem arrive_stat (e : RxEvent) : (s.arrive e).stat = s.stat := rfl
@[simp] theorem arrive_qst (e : RxEvent) : (s.arrive e).qst = s.qst := rfl
@[simp] theorem arrive_qpid (e : RxEvent) : (s.arrive e).qpid = s.qpid := rfl
@[simp] theorem arrive_qout (e : RxEvent) : (s.arrive e).qout = s.qout := rfl
@[simp] theorem arrive_six (e : RxEvent) : (s.arrive e).six = s.six := rfl
@[simp] theorem arrive_res (e : RxEvent) : (s.arrive e).res = s.res := rfl
@[simp] theorem arrive_conn (e : RxEvent) : (s.arrive e).conn = s.conn := rfl
@[simp] theorem arrive_rxq (e : RxEvent) : (s.arrive e).rxq = s.rxq ++ [e] := rfl
@[simp] theorem arrive_oracle (e : RxEvent) : (s.arrive e).oracle = s.oracle := rfl
@[simp] theorem arrive_oracleIx (e : RxEvent) : (s.arrive e).oracleIx = s.oracleIx := rfl
@[simp] theorem arrive_opens (e : RxEvent) : (s.arrive e).opens = s.opens := rfl
@[simp] theorem arrive_sent (e : RxEvent) : (s.arrive e).sent = s.sent := rfl
@[simp] theorem arrive_lastFrame (e : RxEvent) : (s.arrive e).lastFrame = s.lastFrame := rfl
@[simp] theorem arrive_answer (e : RxEvent) : (s.arrive e).answer = s.answer := rfl
@[simp] theorem arrive_seq (e : RxEvent) : (s.arrive e).seq = s.seq := rfl
@[simp] theorem arrive_host (e : RxEvent) : (s.arrive e).host = s.host := rfl
@[simp] theorem arrive_rstIn (e : RxEvent) : (s.arrive e).rstIn = s.rstIn := rfl

/-! ### Fields after pushing micro steps -/

@[simp] theorem push_params (as : List Act) : (s.push as).params = s.params := rfl
@[simp] theorem push_pidr (as : List Act) : (s.push as).pidr = s.pidr := rfl
@[simp] theorem push_pv (as : List Act) : (s.push as).pv = s.pv := rfl
@[simp] theorem push_frm (as : List Act) : (s.push as).frm = s.frm := rfl
@[simp] theorem push_fv (as : List Act) : (s.push as).fv = s.fv := rfl
@[simp] theorem push_rsp (as : List Act) : (s.push as).rsp = s.rsp := rfl
@[simp] theorem push_rv (as : List Act) : (s.push as).rv = s.rv := rfl
@[simp] theorem push_rdg (as : List Act) : (s.push as).rdg = s.rdg := rfl
@[simp] theorem push_dv (as : List Act) : (s.push as).dv = s.dv := rfl
@[simp] theorem push_cmd (as : List Act) : (s.push as).cmd = s.cmd := rfl
@[simp] theorem push_stat (as : List Act) : (s.push as).stat = s.stat := rfl
@[simp] theorem push_qst (as : List Act) : (s.push as).qst = s.qst := rfl
@[simp] theorem push_qpid (as : List Act) : (s.push as).qpid = s.qpid := rfl
@[simp] theorem push_qout (as : List Act) : (s.push as).qout = s.qout := rfl
@[simp] theorem push_six (as : List Act) : (s.push as).six = s.six := rfl
@[simp] theorem push_res (as : List Act) : (s.push as).res = s.res := rfl
@[simp] theorem push_conn (as : List Act) : (s.push as).conn = s.conn := rfl
@[simp] theorem push_rxq (as : List Act) : (s.push as).rxq = s.rxq := rfl
@[simp] theorem push_oracle (as : List Act) : (s.push as).oracle = s.oracle := rfl
@[simp] theorem push_oracleIx (as : List Act) : (s.push as).oracleIx = s.oracleIx := rfl
@[simp] theorem push_opens (as : List Act) : (s.push as).opens = s.opens := rfl
@[simp] theorem push_sent (as : List Act) : (s.push as).sent = s.sent := rfl
@[simp] theorem push_lastFrame (as : List Act) : (s.push as).lastFrame = s.lastFrame := rfl
@[simp] theorem push_answer (as : List Act) : (s.push as).answer = s.answer := rfl
@[simp] theorem push_seq (as : List Act) : (s.push as).seq = as ++ s.seq := rfl
@[simp] theorem push_host (as : List Act) : (s.push as).host = s.host := rfl
@[simp] theorem push_rstIn (as : List Act) : (s.push as).rstIn = s.rstIn := rfl

/-! ### Fields after passing a step boundary -/

@[simp] theorem sampled_params : s.sampled.params = s.params := rfl
@[simp] theorem sampled_pidr : s.sampled.pidr = s.pidr := rfl
@[simp] theorem sampled_pv : s.sampled.pv = s.pv := rfl
@[simp] theorem sampled_frm : s.sampled.frm = s.frm := rfl
@[simp] theorem sampled_fv : s.sampled.fv = s.fv := rfl
@[simp] theorem sampled_rsp : s.sampled.rsp = s.rsp := rfl
@[simp] theorem sampled_rv : s.sampled.rv = s.rv := rfl
@[simp] theorem sampled_rdg : s.sampled.rdg = s.rdg := rfl
@[simp] theorem sampled_dv : s.sampled.dv = s.dv := rfl
@[simp] theorem sampled_cmd : s.sampled.cmd = s.cmd := rfl
@[simp] theorem sampled_stat : s.sampled.stat = s.stat := rfl
@[simp] theorem sampled_qst : s.sampled.qst = s.qst := rfl
@[simp] theorem sampled_qpid : s.sampled.qpid = s.qpid := rfl
@[simp] theorem sampled_qout : s.sampled.qout = s.qout := rfl
@[simp] theorem sampled_six : s.sampled.six = s.six := rfl
@[simp] theorem sampled_res : s.sampled.res = s.res := rfl
@[simp] theorem sampled_conn : s.sampled.conn = s.conn := rfl
@[simp] theorem sampled_rxq : s.sampled.rxq = s.rxq := rfl
@[simp] theorem sampled_oracle : s.sampled.oracle = s.oracle := rfl
@[simp] theorem sampled_oracleIx : s.sampled.oracleIx = s.oracleIx := rfl
@[simp] theorem sampled_opens : s.sampled.opens = s.opens := rfl
@[simp] theorem sampled_sent : s.sampled.sent = s.sent := rfl
@[simp] theorem sampled_lastFrame : s.sampled.lastFrame = s.lastFrame := rfl
@[simp] theorem sampled_answer : s.sampled.answer = s.answer := rfl
@[simp] theorem sampled_seq : s.sampled.seq = s.seq := rfl
@[simp] theorem sampled_host : s.sampled.host = s.host := rfl
@[simp] theorem sampled_rstIn : s.sampled.rstIn = s.rstIn.tail := rfl

/-! ### Fields after the connection is closed -/

@[simp] theorem closeConnection_params : s.closeConnection.params = s.params := rfl
@[simp] theorem closeConnection_pidr : s.closeConnection.pidr = s.pidr := rfl
@[simp] theorem closeConnection_pv : s.closeConnection.pv = s.pv := rfl
@[simp] theorem closeConnection_frm : s.closeConnection.frm = s.frm := rfl
@[simp] theorem closeConnection_fv : s.closeConnection.fv = s.fv := rfl
@[simp] theorem closeConnection_rsp : s.closeConnection.rsp = s.rsp := rfl
@[simp] theorem closeConnection_rv : s.closeConnection.rv = s.rv := rfl
@[simp] theorem closeConnection_rdg : s.closeConnection.rdg = s.rdg := rfl
@[simp] theorem closeConnection_dv : s.closeConnection.dv = s.dv := rfl
@[simp] theorem closeConnection_cmd : s.closeConnection.cmd = s.cmd := rfl
@[simp] theorem closeConnection_stat : s.closeConnection.stat = s.stat := rfl
@[simp] theorem closeConnection_qst : s.closeConnection.qst = s.qst := rfl
@[simp] theorem closeConnection_qpid : s.closeConnection.qpid = s.qpid := rfl
@[simp] theorem closeConnection_qout : s.closeConnection.qout = s.qout := rfl
@[simp] theorem closeConnection_six : s.closeConnection.six = s.six := rfl
@[simp] theorem closeConnection_res : s.closeConnection.res = s.res := rfl
@[simp] theorem closeConnection_conn : s.closeConnection.conn = .closed := rfl
@[simp] theorem closeConnection_rxq : s.closeConnection.rxq = s.rxq := rfl
@[simp] theorem closeConnection_oracle : s.closeConnection.oracle = s.oracle := rfl
@[simp] theorem closeConnection_oracleIx : s.closeConnection.oracleIx = s.oracleIx := rfl
@[simp] theorem closeConnection_opens : s.closeConnection.opens = s.opens := rfl
@[simp] theorem closeConnection_sent : s.closeConnection.sent = s.sent := rfl
@[simp] theorem closeConnection_lastFrame : s.closeConnection.lastFrame = s.lastFrame := rfl
@[simp] theorem closeConnection_answer : s.closeConnection.answer = s.answer := rfl
@[simp] theorem closeConnection_seq : s.closeConnection.seq = s.seq := rfl
@[simp] theorem closeConnection_host : s.closeConnection.host = s.host := rfl
@[simp] theorem closeConnection_rstIn : s.closeConnection.rstIn = s.rstIn := rfl

/-! ### Fields after an error is raised -/

@[simp] theorem raise_params (c : Command) (f : CheckFlags) (e : Error) : (s.raise c f e).params = s.params := by
  cases c <;> rfl
@[simp] theorem raise_pidr (c : Command) (f : CheckFlags) (e : Error) : (s.raise c f e).pidr = s.pidr := by
  cases c <;> rfl
@[simp] theorem raise_pv (c : Command) (f : CheckFlags) (e : Error) : (s.raise c f e).pv = s.pv := by
  cases c <;> rfl
@[simp] theorem raise_frm (c : Command) (f : CheckFlags) (e : Error) : (s.raise c f e).frm = s.frm := by
  cases c <;> rfl
@[simp] theorem raise_rsp (c : Command) (f : CheckFlags) (e : Error) : (s.raise c f e).rsp = s.rsp := by
  cases c <;> rfl
@[simp] theorem raise_rdg (c : Command) (f : CheckFlags) (e : Error) : (s.raise c f e).rdg = s.rdg := by
  cases c <;> rfl
@[simp] theorem raise_dv (c : Command) (f : CheckFlags) (e : Error) : (s.raise c f e).dv = false := by
  cases c <;> rfl
@[simp] theorem raise_cmd (c : Command) (f : CheckFlags) (e : Error) : (s.raise c f e).cmd = s.cmd := by
  cases c <;> rfl
@[simp] theorem raise_stat (c : Command) (f : CheckFlags) (e : Error) : (s.raise c f e).stat = statErr c f e := by
  cases c <;> rfl
@[simp] theorem raise_qst (c : Command) (f : CheckFlags) (e : Error) : (s.raise c f e).qst = s.qst := by
  cases c <;> rfl
@[simp] theorem raise_qpid (c : Command) (f : CheckFlags) (e : Error) : (s.raise c f e).qpid = s.qpid := by
  cases c <;> rfl
@[simp] theorem raise_qout (c : Command) (f : CheckFlags) (e : Error) : (s.raise c f e).qout = s.qout := by
  cases c <;> rfl
@[simp] theorem raise_six (c : Command) (f : CheckFlags) (e : Error) : (s.raise c f e).six = s.six := by
  cases c <;> rfl
@[simp] theorem raise_res (c : Command) (f : CheckFlags) (e : Error) : (s.raise c f e).res = s.res := by
  cases c <;> rfl
@[simp] theorem raise_conn (c : Command) (f : CheckFlags) (e : Error) : (s.raise c f e).conn = s.conn := by
  cases c <;> rfl
@[simp] theorem raise_rxq (c : Command) (f : CheckFlags) (e : Error) : (s.raise c f e).rxq = s.rxq := by
  cases c <;> rfl
@[simp] theorem raise_oracle (c : Command) (f : CheckFlags) (e : Error) : (s.raise c f e).oracle = s.oracle := by
  cases c <;> rfl
@[simp] theorem raise_oracleIx (c : Command) (f : CheckFlags) (e : Error) : (s.raise c f e).oracleIx = s.oracleIx := by
  cases c <;> rfl
@[simp] theorem raise_opens (c : Command) (f : CheckFlags) (e : Error) : (s.raise c f e).opens = s.opens := by
  cases c <;> rfl
@[simp] theorem raise_sent (c : Command) (f : CheckFlags) (e : Error) : (s.raise c f e).sent = s.sent := by
  cases c <;> rfl
@[simp] theorem raise_lastFrame (c : Command) (f : CheckFlags) (e : Error) : (s.raise c f e).lastFrame = s.lastFrame := by
  cases c <;> rfl
@[simp] theorem raise_answer (c : Command) (f : CheckFlags) (e : Error) : (s.raise c f e).answer = s.answer := by
  cases c <;> rfl
@[simp] theorem raise_seq (c : Command) (f : CheckFlags) (e : Error) : (s.raise c f e).seq = s.seq := by
  cases c <;> rfl
@[simp] theorem raise_host (c : Command) (f : CheckFlags) (e : Error) : (s.raise c f e).host = s.host := by
  cases c <;> rfl
@[simp] theorem raise_rstIn (c : Command) (f : CheckFlags) (e : Error) : (s.raise c f e).rstIn = s.rstIn := by
  cases c <;> rfl
@[simp] theorem raise_enc_fv (f : CheckFlags) (e : Error) : (s.raise .enc f e).fv = false := rfl
@[simp] theorem raise_decf_fv (f : CheckFlags) (e : Error) : (s.raise .decf f e).fv = s.fv := rfl
@[simp] theorem raise_decp_fv (f : CheckFlags) (e : Error) : (s.raise .decp f e).fv = s.fv := rfl
@[simp] theorem raise_enc_rv (f : CheckFlags) (e : Error) : (s.raise .enc f e).rv = false := rfl
@[simp] theorem raise_decf_rv (f : CheckFlags) (e : Error) : (s.raise .decf f e).rv = false := rfl
@[simp] theorem raise_decp_rv (f : CheckFlags) (e : Error) : (s.raise .decp f e).rv = s.rv := rfl

/-! ### Fields after `ENC` with no operand -/

@[simp] theorem encNoOperand_params : s.encNoOperand.params = s.params := rfl
@[simp] theorem encNoOperand_pidr : s.encNoOperand.pidr = s.pidr := rfl
@[simp] theorem encNoOperand_pv : s.encNoOperand.pv = s.pv := rfl
@[simp] theorem encNoOperand_frm : s.encNoOperand.frm = s.frm := rfl
@[simp] theorem encNoOperand_fv : s.encNoOperand.fv = s.fv := rfl
@[simp] theorem encNoOperand_rsp : s.encNoOperand.rsp = s.rsp := rfl
@[simp] theorem encNoOperand_rv : s.encNoOperand.rv = false := rfl
@[simp] theorem encNoOperand_rdg : s.encNoOperand.rdg = s.rdg := rfl
@[simp] theorem encNoOperand_dv : s.encNoOperand.dv = false := rfl
@[simp] theorem encNoOperand_cmd : s.encNoOperand.cmd = s.cmd := rfl
@[simp] theorem encNoOperand_stat : s.encNoOperand.stat = statErr .enc noFlags .operandInvalid := rfl
@[simp] theorem encNoOperand_qst : s.encNoOperand.qst = s.qst := rfl
@[simp] theorem encNoOperand_qpid : s.encNoOperand.qpid = s.qpid := rfl
@[simp] theorem encNoOperand_qout : s.encNoOperand.qout = s.qout := rfl
@[simp] theorem encNoOperand_six : s.encNoOperand.six = s.six := rfl
@[simp] theorem encNoOperand_res : s.encNoOperand.res = s.res := rfl
@[simp] theorem encNoOperand_conn : s.encNoOperand.conn = s.conn := rfl
@[simp] theorem encNoOperand_rxq : s.encNoOperand.rxq = s.rxq := rfl
@[simp] theorem encNoOperand_oracle : s.encNoOperand.oracle = s.oracle := rfl
@[simp] theorem encNoOperand_oracleIx : s.encNoOperand.oracleIx = s.oracleIx := rfl
@[simp] theorem encNoOperand_opens : s.encNoOperand.opens = s.opens := rfl
@[simp] theorem encNoOperand_sent : s.encNoOperand.sent = s.sent := rfl
@[simp] theorem encNoOperand_lastFrame : s.encNoOperand.lastFrame = s.lastFrame := rfl
@[simp] theorem encNoOperand_answer : s.encNoOperand.answer = s.answer := rfl
@[simp] theorem encNoOperand_seq : s.encNoOperand.seq = s.seq := rfl
@[simp] theorem encNoOperand_host : s.encNoOperand.host = s.host := rfl
@[simp] theorem encNoOperand_rstIn : s.encNoOperand.rstIn = s.rstIn := rfl

/-! ### Fields after the end of a query -/

@[simp] theorem endQuery_params (r : Result Reading) : (s.endQuery r).params = s.params := by
  cases r <;> rfl
@[simp] theorem endQuery_pidr (r : Result Reading) : (s.endQuery r).pidr = s.pidr := by
  cases r <;> rfl
@[simp] theorem endQuery_pv (r : Result Reading) : (s.endQuery r).pv = s.pv := by
  cases r <;> rfl
@[simp] theorem endQuery_frm (r : Result Reading) : (s.endQuery r).frm = s.frm := by
  cases r <;> rfl
@[simp] theorem endQuery_fv (r : Result Reading) : (s.endQuery r).fv = s.fv := by
  cases r <;> rfl
@[simp] theorem endQuery_rsp (r : Result Reading) : (s.endQuery r).rsp = s.rsp := by
  cases r <;> rfl
@[simp] theorem endQuery_rv (r : Result Reading) : (s.endQuery r).rv = s.rv := by
  cases r <;> rfl
@[simp] theorem endQuery_rdg (r : Result Reading) : (s.endQuery r).rdg = s.rdg := by
  cases r <;> rfl
@[simp] theorem endQuery_dv (r : Result Reading) : (s.endQuery r).dv = s.dv := by
  cases r <;> rfl
@[simp] theorem endQuery_cmd (r : Result Reading) : (s.endQuery r).cmd = s.cmd := by
  cases r <;> rfl
@[simp] theorem endQuery_stat (r : Result Reading) : (s.endQuery r).stat = s.stat := by
  cases r <;> rfl
@[simp] theorem endQuery_qpid (r : Result Reading) : (s.endQuery r).qpid = s.qpid := by
  cases r <;> rfl
@[simp] theorem endQuery_qout (r : Result Reading) : (s.endQuery r).qout = r := by
  cases r <;> rfl
@[simp] theorem endQuery_six (r : Result Reading) : (s.endQuery r).six = s.six := by
  cases r <;> rfl
@[simp] theorem endQuery_res (r : Result Reading) : (s.endQuery r).res = s.res := by
  cases r <;> rfl
@[simp] theorem endQuery_conn (r : Result Reading) : (s.endQuery r).conn = s.conn := by
  cases r <;> rfl
@[simp] theorem endQuery_rxq (r : Result Reading) : (s.endQuery r).rxq = s.rxq := by
  cases r <;> rfl
@[simp] theorem endQuery_oracle (r : Result Reading) : (s.endQuery r).oracle = s.oracle := by
  cases r <;> rfl
@[simp] theorem endQuery_oracleIx (r : Result Reading) : (s.endQuery r).oracleIx = s.oracleIx := by
  cases r <;> rfl
@[simp] theorem endQuery_opens (r : Result Reading) : (s.endQuery r).opens = s.opens := by
  cases r <;> rfl
@[simp] theorem endQuery_sent (r : Result Reading) : (s.endQuery r).sent = s.sent := by
  cases r <;> rfl
@[simp] theorem endQuery_lastFrame (r : Result Reading) : (s.endQuery r).lastFrame = s.lastFrame := by
  cases r <;> rfl
@[simp] theorem endQuery_answer (r : Result Reading) : (s.endQuery r).answer = s.answer := by
  cases r <;> rfl
@[simp] theorem endQuery_seq (r : Result Reading) : (s.endQuery r).seq = s.seq := by
  cases r <;> rfl
@[simp] theorem endQuery_host (r : Result Reading) : (s.endQuery r).host = s.host := by
  cases r <;> rfl
@[simp] theorem endQuery_rstIn (r : Result Reading) : (s.endQuery r).rstIn = s.rstIn := by
  cases r <;> rfl
@[simp] theorem endQuery_ok_qst (v : Reading) : (s.endQuery (.ok v)).qst = .decoded := rfl
@[simp] theorem endQuery_err_qst (e : Error) : (s.endQuery (.err e)).qst = .failed := rfl

end Sys2Proof.Machine
end

