-- ==== Sys2Proof/Laws/Ops.lean ====
section
/-! SUPPORT. One lemma per shared operation that says everything it can do, cited instead of unfolding it. -/

namespace Sys2Proof.Machine

/-! ### The commands -/

/-- A byte is always encoded, as the request frame of 30_encoding.md R72 (40_frame_encode.md R100). -/
theorem encodeRequest_byte (p : Params) (b : Byte) :
    ∃ f, encodeRequest p b.toNat = .ok f ∧ CanFrame.toFrame f = requestFrame p b := by
  have h : ¬((b.toNat : Int) < 0 ∨ (b.toNat : Int) > 255) := by have := b.isLt; omega
  refine ⟨_, by unfold encodeRequest; rw [if_neg h], ?_⟩
  simp [CanFrame.toFrame, requestFrame]

/-- What `ENC` can do (40_frame_encode.md R101). -/
theorem runEnc_cases (s : State) :
    (s.pv = true ∧ ∃ f, CanFrame.toFrame f = requestFrame s.params s.pidr ∧ s.runEnc = s.putRequest f) ∨
      (s.pv = false ∧ s.runEnc = s.encNoOperand) := by
  unfold State.runEnc
  cases h : s.pv
  · exact .inr ⟨rfl, rfl⟩
  · obtain ⟨f, hf, hff⟩ := encodeRequest_byte s.params s.pidr
    exact .inl ⟨rfl, f, hff, by simp [hf]⟩

/-- What `DECF` can do: a valid response built from valid operands, or an error (41_frame_decode.md R116). -/
theorem runDecf_cases (s : State) :
    (s.fv = true ∧ s.pv = true ∧ ∃ f r, toCanFrame? s.frm = some f ∧ decodeResponse f s.pidr = .ok r ∧
        s.runDecf = s.putResponse r) ∨
      (s.fv = true ∧ s.pv = true ∧ ∃ f k, toCanFrame? s.frm = some f ∧
        firstFailure (checks f s.pidr) = some k ∧
        s.runDecf = s.raise .decf (checks f s.pidr) (.protocolError k)) ∨
      (s.fv = true ∧ s.pv = true ∧ toCanFrame? s.frm = none ∧
        s.runDecf = s.raise .decf (oversizeFlags s.frm.id)
          (.protocolError (if idInRange s.frm.id then .malformedLength else .wrongArbitrationId))) ∨
      ((s.fv = false ∨ s.pv = false) ∧ s.runDecf = s.raise .decf noFlags .operandInvalid) := by
  unfold State.runDecf
  cases hf : s.fv <;> cases hp : s.pv
  · exact .inr (.inr (.inr ⟨.inl rfl, rfl⟩))
  · exact .inr (.inr (.inr ⟨.inl rfl, rfl⟩))
  · exact .inr (.inr (.inr ⟨.inr rfl, rfl⟩))
  · cases hc : toCanFrame? s.frm with
    | none => exact .inr (.inr (.inl ⟨rfl, rfl, rfl, rfl⟩))
    | some f =>
      cases hd : decodeResponse f s.pidr with
      | ok r => exact .inl ⟨rfl, rfl, f, r, rfl, hd, by simp [hd]⟩
      | err e =>
        obtain ⟨k, hk, rfl⟩ := (decodeResponse_err_iff _ _ _).1 hd
        exact .inr (.inl ⟨rfl, rfl, f, k, rfl, hk, by simp [hd]⟩)

/-- What `DECP` can do (42_pid_decode.md R137). -/
theorem runDecp_cases (s : State) :
    (s.rv = true ∧ ∃ v, decodePid s.params s.rsp.pid s.rsp.payload = .ok v ∧ s.runDecp = s.putReading v) ∨
      (s.rv = true ∧ ∃ e, decodePid s.params s.rsp.pid s.rsp.payload = .err e ∧
        s.runDecp = s.raise .decp noFlags e) ∨
      (s.rv = false ∧ s.runDecp = s.raise .decp noFlags .operandInvalid) := by
  unfold State.runDecp State.finishDecp
  cases h : s.rv
  · exact .inr (.inr ⟨rfl, rfl⟩)
  · cases hd : decodePid s.params s.rsp.pid s.rsp.payload with
    | ok v => exact .inl ⟨rfl, v, rfl, rfl⟩
    | err e => exact .inr (.inl ⟨rfl, e, rfl, rfl⟩)

/-- What a selector row can do (42_pid_decode.md R134 to R137). -/
theorem runDecpAs_cases (s : State) (k : PidKind) :
    (s.rv = true ∧ ∃ v, decodeAs s.params k s.rsp.payload = .ok v ∧ s.runDecpAs k = s.putReading v) ∨
      (s.rv = true ∧ s.rsp.payload.length < k.need ∧ s.runDecpAs k = s.raise .decp noFlags .decodeError) ∨
      (s.rv = false ∧ s.runDecpAs k = s.raise .decp noFlags .operandInvalid) := by
  unfold State.runDecpAs State.finishDecp
  cases h : s.rv
  · exact .inr (.inr ⟨rfl, rfl⟩)
  · cases hd : decodeAs s.params k s.rsp.payload with
    | ok v => exact .inl ⟨rfl, v, rfl, rfl⟩
    | err e =>
      obtain ⟨hl, rfl⟩ := (decodeAs_err_iff _ _ _ _).1 hd
      exact .inr (.inl ⟨rfl, hl, rfl⟩)

/-- `DECP` is the row its pid byte selects (30_encoding.md R81). -/
theorem runDecp_of_kind {s : State} {k : PidKind} (h : s.params.kindOf s.rsp.pid = some k) :
    s.runDecp = s.runDecpAs k := by
  simp [State.runDecp, State.runDecpAs, decodePid, h]

/-! ### What each command leaves alone (10_state.md R36) -/

theorem runEnc_frame (s : State) :
    s.runEnc = { s with frm := s.runEnc.frm, fv := s.runEnc.fv, rv := false, dv := false, stat := s.runEnc.stat } := by
  rcases runEnc_cases s with ⟨-, f, -, h⟩ | ⟨-, h⟩ <;> rw [h] <;> rfl

theorem runDecf_frame (s : State) :
    s.runDecf = { s with rsp := s.runDecf.rsp, rv := s.runDecf.rv, dv := false, stat := s.runDecf.stat } := by
  rcases runDecf_cases s with ⟨-, -, f, r, -, -, h⟩ | ⟨-, -, f, k, -, -, h⟩ | ⟨-, -, -, h⟩ | ⟨-, h⟩ <;> rw [h] <;> rfl

theorem runDecp_frame (s : State) :
    s.runDecp = { s with rdg := s.runDecp.rdg, dv := s.runDecp.dv, stat := s.runDecp.stat } := by
  rcases runDecp_cases s with ⟨-, v, -, h⟩ | ⟨-, e, -, h⟩ | ⟨-, h⟩ <;> rw [h] <;> rfl

theorem runDecpAs_frame (s : State) (k : PidKind) :
    s.runDecpAs k =
      { s with rdg := (s.runDecpAs k).rdg, dv := (s.runDecpAs k).dv, stat := (s.runDecpAs k).stat } := by
  rcases runDecpAs_cases s k with ⟨-, v, -, h⟩ | ⟨-, -, h⟩ | ⟨-, h⟩ <;> rw [h] <;> rfl

theorem buildRequest_frame (s : State) (p : Byte) :
    s.buildRequest p =
      { s with pidr := p, pv := true, frm := (s.buildRequest p).frm, fv := (s.buildRequest p).fv, rv := false,
               dv := false, cmd := 1, stat := (s.buildRequest p).stat } := by
  unfold State.buildRequest
  rw [runEnc_frame]
  rfl

theorem recognise_frame (s : State) (f : Frame) :
    s.recognise f =
      { s with frm := f, fv := true, rsp := (s.recognise f).rsp, rv := (s.recognise f).rv, dv := false, cmd := 2,
               stat := (s.recognise f).stat } := by
  unfold State.recognise
  rw [runDecf_frame]
  rfl

theorem interpret_frame (s : State) (f : Frame) :
    s.interpret f =
      { s with frm := f, fv := true, rsp := (s.recognise f).rsp, rv := (s.recognise f).rv,
               rdg := (s.interpret f).rdg, dv := (s.interpret f).dv, cmd := (s.interpret f).cmd,
               stat := (s.interpret f).stat } := by
  have h := recognise_frame s f
  unfold State.interpret
  split
  · rw [runDecp_frame]
    rw [h]
    rfl
  · rw [h]

/-! ### Steps -/

/-- The instruction a write of `CMD` issues, whatever `RSP` holds: its row, or the row `RSP.PID` selects. -/
theorem fetch_cases (s : State) (c : CmdCode) :
    s.fetch c = decodeCmd c ∨
      (decodeCmd c = .decp ∧ s.rv = true ∧ ∃ k, s.params.kindOf s.rsp.pid = some k ∧ s.fetch c = selectorRow k) := by
  unfold State.fetch
  cases hd : decodeCmd c
  case decp =>
    cases hr : s.rv
    · exact .inl rfl
    · cases hk : s.params.kindOf s.rsp.pid with
      | none => left; simp [decodeSel, hk]
      | some k => right; exact ⟨rfl, rfl, k, rfl, by simp [decodeSel, hk]⟩
  all_goals exact .inl rfl

/-- The command issued does what the command code says, whichever row was fetched (30_encoding.md R80, R81). -/
theorem actCmd_eq (c : CmdCode) (s : State) : actCmd c s = exec (decodeCmd c) (s.writeCmd c) := by
  unfold actCmd
  rcases fetch_cases s c with h | ⟨hd, -, k, hk, hf⟩
  · rw [h]
  · rw [hf, hd]
    have hr : (s.writeCmd c).runDecp = (s.writeCmd c).runDecpAs k := runDecp_of_kind (by simpa using hk)
    cases k <;> simp [selectorRow, exec, execDecp, execDecpStd, execDecpFuel, execDecpRuntime, hr]

/-- A step with no reset asserted is the next act, when the agent whose turn it is may issue it
(70_reset_and_hazards.md R211). -/
theorem step_of_act {s : State} {a : Act} (hr : s.resetAsserted = false) (ha : s.nextAct = some a)
    (hm : s.mayIssue a = true) : step s = runAct a s.sampled.popAct := by
  simp [step, stepOf, hr, ha, hm]

/-- A step that answers a next state with no reset asserted ran the next act. -/
theorem step_next_act {s t : State} {a : Act} (hr : s.resetAsserted = false) (ha : s.nextAct = some a)
    (h : step s = .next t) : runAct a s.sampled.popAct = .next t := by
  simp only [step, stepOf, hr, ha, Bool.false_eq_true, if_false] at h
  split at h
  · exact h
  · cases h

/-- What is no micro step of the sequencer may always be issued. -/
theorem mayIssue_of_not_micro (s : State) {a : Act} (h : a.isMicro = false) : s.mayIssue a = true := by
  simp [State.mayIssue, h]

theorem step_of_reset {s : State} (hr : s.resetAsserted = true) : step s = .next s.sampled.applyReset := by
  simp [step, stepOf, hr]

theorem step_of_none {s : State} (hr : s.resetAsserted = false) (ha : s.nextAct = none) : step s = .next s.sampled := by
  simp [step, stepOf, hr, ha]

/-- Moving past an act changes only the lists of acts. -/
theorem popAct_frame (s : State) : s.popAct = { s with seq := s.popAct.seq, host := s.popAct.host } := by
  unfold State.popAct
  split <;> rfl

theorem transportSend_frame (s : State) (g : CanFrame) :
    s.transportSend g =
      { s with oracle := (s.transportSend g).oracle, oracleIx := (s.transportSend g).oracleIx,
               sent := (s.transportSend g).sent, rxq := (s.transportSend g).rxq,
               answer := .sent s.nextInput.sendOk } := by
  unfold State.transportSend State.dropInput
  split <;> rename_i h <;> split <;> simp_all

/-- What opening the connection can do. -/
theorem openConnection_frame (s : State) :
    s.openConnection =
      { s with opens := s.openConnection.opens, oracleIx := s.openConnection.oracleIx,
               conn := if s.nextOpen.ok then .opened else .closed,
               rxq := if s.nextOpen.ok then s.nextOpen.queue else s.rxq,
               answer := if s.nextOpen.ok then s.answer else .error .transportError } := by
  unfold State.openConnection State.dropOpen
  split <;> rename_i h <;> split <;> simp_all

end Sys2Proof.Machine
end

