-- ==== Sys2Proof/Laws/PerInstr.lean ====
section
/-! SUPPORT. Statements for all instructions, one lemma per constructor. Family `Form`: the word of an instruction has the form of its row's format in the opcode table (30_encoding.md R84). -/

namespace Sys2Proof.Laws

/-- The form of a word in a format: a command code, a selector byte, or a frame word whose id is the request id or
lies in the response range (30_encoding.md R71, R80, R81). -/
def Form.Fits : Format → InstrWord → Prop
  | .cmd, .cmd _ => True
  | .pidsel, .sel _ => True
  | .req, .frame w => ∃ f : Frame, w = f.pack ∧ f.id = Config.reqId
  | .rsp, .frame w => ∃ f : Frame, w = f.pack ∧ f.id.extractLsb' 3 8 = 0b11111101#8
  | _, _ => False

/-- Whatever the parameters, the instruction's word has the form of its format. -/
def Form.Statement (i : Instr) : Prop := ∀ p : Params, Form.Fits i.format (encode p i)

theorem Form.responseFrame_id (pid : Byte) (f : RspFields) :
    (responseFrame pid f).id.extractLsb' 3 8 = 0b11111101#8 := by
  have h : ∀ e : BitVec 3, ((0b11111101#8) ++ e : BitVec 11).extractLsb' 3 8 = 0b11111101#8 := by decide
  exact h f.ecu

theorem Form.nop : Form.Statement .nop := fun _ => trivial
theorem Form.enc : Form.Statement .enc := fun _ => trivial
theorem Form.decf : Form.Statement .decf := fun _ => trivial
theorem Form.decp : Form.Statement .decp := fun _ => trivial
theorem Form.decpStd : Form.Statement .decpStd := fun _ => trivial
theorem Form.decpFuel : Form.Statement .decpFuel := fun _ => trivial
theorem Form.decpRuntime : Form.Statement .decpRuntime := fun _ => trivial
theorem Form.req (pid : Byte) : Form.Statement (.req pid) := fun _ => ⟨_, rfl, rfl⟩
theorem Form.reqStd : Form.Statement .reqStd := fun _ => ⟨_, rfl, rfl⟩
theorem Form.reqFuel : Form.Statement .reqFuel := fun _ => ⟨_, rfl, rfl⟩
theorem Form.reqRuntime : Form.Statement .reqRuntime := fun _ => ⟨_, rfl, rfl⟩
theorem Form.rsp (pid : Byte) (f : RspFields) : Form.Statement (.rsp pid f) :=
  fun _ => ⟨_, rfl, Form.responseFrame_id _ _⟩
theorem Form.rspStd (f : RspFields) : Form.Statement (.rspStd f) := fun _ => ⟨_, rfl, Form.responseFrame_id _ _⟩
theorem Form.rspFuel (f : RspFields) : Form.Statement (.rspFuel f) := fun _ => ⟨_, rfl, Form.responseFrame_id _ _⟩
theorem Form.rspRuntime (f : RspFields) : Form.Statement (.rspRuntime f) :=
  fun _ => ⟨_, rfl, Form.responseFrame_id _ _⟩

end Sys2Proof.Laws
end

