-- ==== Sys2Proof/Laws/Step.lean ====
section
/-! SUPPORT. Lemmas on steps, on the rows a step runs, and on what the sequencer reads back from the block. -/

namespace Sys2Proof.Machine

/-! ### Which act a step runs -/

/-- With no reset to come, the sequencer's next micro step runs. -/
theorem step_seq {s : State} {a : Act} {as : List Act} (h : s.rstIn = []) (hs : s.seq = a :: as) :
    step s = runAct a { s with seq := as } := by
  rw [step_of_act (a := a) (by simp [State.resetAsserted, h]) (by simp [State.nextAct, hs])
    (by simp [State.mayIssue, hs])]
  congr 1
  cases s
  simp_all [State.sampled, State.popAct]

/-- With no reset to come and the sequencer idle, the host's next step runs, when it is one of a host's. -/
theorem step_host {s : State} {a : Act} {as : List Act} (h : s.rstIn = []) (hs : s.seq = []) (hh : s.host = a :: as)
    (hm : a.isMicro = false) : step s = runAct a { s with host := as } := by
  rw [step_of_act (a := a) (by simp [State.resetAsserted, h]) (by simp [State.nextAct, hs, hh])
    (mayIssue_of_not_micro s hm)]
  congr 1
  cases s
  simp_all [State.sampled, State.popAct]

/-! ### Rows -/

theorem decodeCmd_cases (c : CmdCode) :
    decodeCmd c = .nop ∨ decodeCmd c = .enc ∨ decodeCmd c = .decf ∨ decodeCmd c = .decp := by
  unfold decodeCmd
  split <;> [simp; split <;> [simp; split <;> simp]]

/-- A frame word decodes to a frame row only (30_encoding.md R71). -/
theorem format_of_frame {p : Params} {w : FrameWord} {i : Instr} (h : decode p (.frame w) = .ok i) :
    i.format = .req ∨ i.format = .rsp := by
  simp only [decode, decodeFrame] at h
  split at h
  · simp only [decodeReq] at h
    split at h <;> [skip; cases h]
    split at h <;> [skip; cases h]
    split at h <;> cases h
    · rename_i k _
      cases k <;> simp [requestRow, Instr.format]
    · simp [Instr.format]
  · split at h <;> [skip; cases h]
    simp only [decodeRsp] at h
    split at h <;> [skip; cases h]
    split at h
    · cases h
      simp [Instr.format]
    · split at h <;> cases h
      · simp [Instr.format]
      · rename_i k _ _
        cases k <;> simp [responseRow, Instr.format]

/-- What running the row of a frame word is: building a request, or taking a response through the block. -/
theorem exec_frame_cases {p : Params} {w : FrameWord} {i : Instr} (h : decode p (.frame w) = .ok i) (s : State) :
    (∃ b, exec i s = .next (s.buildRequest b)) ∨ (∃ f, exec i s = .next (s.recognise f)) ∨
      (∃ f, exec i s = .next (s.interpret f)) := by
  have hf := format_of_frame h
  cases i <;> simp [Instr.format] at hf <;>
    simp only [exec, execReq, execReqStd, execReqFuel, execReqRuntime, execRsp, execRspStd, execRspFuel, execRspRuntime]
  any_goals exact .inl ⟨_, rfl⟩
  any_goals exact .inr (.inl ⟨_, rfl⟩)
  all_goals exact .inr (.inr ⟨_, rfl⟩)

/-- What a frame word given to the block can do. -/
theorem actFrame_cases (w : FrameWord) (s : State) :
    (∃ b, actFrame w s = .next (s.buildRequest b)) ∨ (∃ f, actFrame w s = .next (s.recognise f)) ∨
      (∃ f, actFrame w s = .next (s.interpret f)) := by
  unfold actFrame
  split
  · rename_i i hi
    exact exec_frame_cases hi s
  · exact .inr (.inl ⟨_, rfl⟩)

/-- What a send can do when it goes through: the transport is called, and the continuation runs on its answer. -/
theorem sendThen_next {s t : State} {k : Bool → State → State} (h : sendThen s k = .next t) :
    ∃ g, t = k s.nextInput.sendOk (s.transportSend g) := by
  unfold sendThen at h
  split at h
  · cases h
  · split at h
    · cases h
    · split at h
      · cases h
      · cases h
        exact ⟨_, rfl⟩

/-! ### What the sequencer reads back -/

/-- A `CanFrame` is unchanged by its trip through the frame group (10_state.md R29). -/
theorem toCanFrame?_toFrame (g : CanFrame) : toCanFrame? (CanFrame.toFrame g) = some g := by
  obtain ⟨a, ⟨n, hn⟩, d⟩ := g
  have : n % 16 = n := by omega
  simp [toCanFrame?, CanFrame.toFrame, this, hn]

/-- `STAT.CHK` after `DECF` on a loaded `CanFrame` holds its four checks (43_query_sequencer.md R155). -/
theorem runDecf_flags {s : State} {g : CanFrame} (h1 : s.fv = true) (h2 : s.pv = true)
    (hf : s.frm = CanFrame.toFrame g) :
    flagsOfStat s.runDecf.stat = checks g s.pidr ∧
      ∀ r, decodeResponse g s.pidr = .ok r → s.runDecf = s.putResponse r := by
  have hc : toCanFrame? s.frm = some g := by rw [hf]; exact toCanFrame?_toFrame g
  rcases runDecf_cases s with ⟨a, b, f, r, hc', hd, h⟩ | ⟨a, b, f, r, hc', hd, h⟩ | ⟨a, b, hc', h⟩ | ⟨a, h⟩
  · rw [hc] at hc'
    cases hc'
    rw [h]
    refine ⟨?_, fun r' hr => ?_⟩
    · rw [((decodeResponse_ok_iff _ _ _).1 hd).1]
      exact flagsOfStat_statOk _ _
    · rw [hr] at hd
      cases hd
      rfl
  · rw [hc] at hc'
    cases hc'
    rw [h]
    refine ⟨by simp [flagsOfStat_statErr], fun r' hr => ?_⟩
    rw [(decodeResponse_err_iff g s.pidr _).2 ⟨_, hd, rfl⟩] at hr
    cases hr
  · rw [hc] at hc'
    cases hc'
  · simp_all

theorem payload_length (g : RspGroup) : g.payload.length = min g.len.toNat 4 := by
  simp [RspGroup.payload, plBytes]

/-- The first byte of a payload that has one (20_memory.md R52). -/
theorem payload_head {g : RspGroup} (h : 1 ≤ g.len.toNat) :
    g.payload = g.pl.pl0 :: [g.pl.pl1, g.pl.pl2, g.pl.pl3].take (g.len.toNat - 1) := by
  unfold RspGroup.payload plBytes
  obtain ⟨n, hn⟩ : ∃ n, g.len.toNat = n + 1 := ⟨g.len.toNat - 1, by omega⟩
  rw [hn]
  rfl

/-- The first two bytes of a payload that has them. -/
theorem payload_head₂ {g : RspGroup} (h : 2 ≤ g.len.toNat) :
    g.payload = g.pl.pl0 :: g.pl.pl1 :: [g.pl.pl2, g.pl.pl3].take (g.len.toNat - 2) := by
  unfold RspGroup.payload plBytes
  obtain ⟨n, hn⟩ : ∃ n, g.len.toNat = n + 2 := ⟨g.len.toNat - 2, by omega⟩
  rw [hn]
  rfl

theorem endQuery_qst_eq (s : State) (r : Result Reading) : (s.endQuery r).qst = endState r := by
  cases r <;> rfl

theorem exec_selectorRow (s : State) (k : PidKind) : exec (selectorRow k) s = .next (s.runDecpAs k) := by
  cases k <;> rfl

end Sys2Proof.Machine
end

