-- ==== Sys2Proof/Tests/Slice0.lean ====
section
/-! SUPPORT. Tests. Expected values come from 95_test_vectors.md and from the tables of 30_encoding.md, never from the model. -/

namespace Sys2Proof.Tests

open Sys2Proof.Machine

/-! ### Helpers -/

/-- The reset state at the default pids with `PAD = 0x00`, the transport empty. -/
def base : State := { State.reset with params := Config.defaultsAt 0, rxq := [] }

/-- `base` with `PAD = 0x55`. -/
def base55 : State := { base with params := Config.defaultsAt 0x55 }

/-- `LDPID p` and `LDFRM` of a frame word. -/
def loaded (p : Byte) (w : FrameWord) : State := (base.ldPid p).ldFrm (Frame.unpack w)

/-- The state after an accepted `DECF`. -/
def accepted (p : Byte) (w : FrameWord) : State := (loaded p w).runDecf

/-- What a step leaves, checked when it is a next state. -/
def leaves (o : Host.Outcome State Fault Refusal) (c : State → Bool) : Bool :=
  match o with
  | .next t => c t
  | .fault _ => false
  | .refused _ => false

/-- `PV FV RV DV`. -/
def valids (s : State) : List Bool := [s.pv, s.fv, s.rv, s.dv]

/-- A frame `ID/8`. -/
def frame8 (id : ArbId) (d : FrameData) : CanFrame := ⟨id, 8, d⟩

/-- The frame `7E8/8: 03 41 2F 80 00 00 00 00` of vector S6. -/
def fuelAnswer : CanFrame := frame8 0x7E8 ⟨0x03, 0x41, 0x2F, 0x80, 0, 0, 0, 0⟩

def noPayload : RspFields := ⟨0, 8, 2, 0, 0, 0, 0, 0⟩
def oneByte : RspFields := ⟨0, 4, 3, 0x80, 0, 0, 0, 0⟩
def twoBytes : RspFields := ⟨7, 5, 4, 0x12, 0x34, 0, 0, 0⟩
def fourBytes : RspFields := ⟨1, 8, 6, 1, 2, 3, 4, 0⟩
def defaults : Params := Config.defaultsAt 0

/-! ### WellFormed: each check refuses an ill-formed term (30_encoding.md R73, R75, R76, R77) -/

theorem test_wf_accepts :
    [Instr.nop, .enc, .decf, .decp, .decpStd, .decpFuel, .decpRuntime, .req 0x0C, .reqStd, .reqFuel, .reqRuntime,
      .rsp 0x0C noPayload, .rsp 0x2F noPayload, .rspStd oneByte, .rspFuel fourBytes, .rspRuntime twoBytes].all
      (WellFormed defaults) = true := by decide

/-- `DLC` above 8. -/
theorem test_wf_refuses_dlc : WellFormed defaults (.rsp 0x0C { noPayload with dlc := 9 }) = false := by decide
/-- `N` below 2. -/
theorem test_wf_refuses_short : WellFormed defaults (.rsp 0x0C { noPayload with n := 1 }) = false := by decide
/-- `N` above 6. -/
theorem test_wf_refuses_long : WellFormed defaults (.rsp 0x0C { noPayload with n := 7 }) = false := by decide
/-- `N` above `DLC - 1`. -/
theorem test_wf_refuses_beyond_dlc : WellFormed defaults (.rsp 0x0C { oneByte with dlc := 3 }) = false := by decide
/-- `N` below `2 + NEED(kind)`. -/
theorem test_wf_refuses_need :
    WellFormed defaults (.rspStd noPayload) = false ∧ WellFormed defaults (.rspFuel noPayload) = false ∧
      WellFormed defaults (.rspRuntime oneByte) = false := by decide
/-- A word another row owns. -/
theorem test_wf_refuses_owned :
    WellFormed defaults (.req 0x1C) = false ∧ WellFormed defaults (.rsp 0x2F oneByte) = false := by decide

/-! ### Decoding: words written out bit by bit from 30_encoding.md -/

/-- R80. -/
theorem test_decode_cmd :
    decodeTableWord 2 0b00 = some .nop ∧ decodeTableWord 2 0b01 = some .enc ∧ decodeTableWord 2 0b10 = some .decf ∧
      decodeTableWord 2 0b11 = some .decp := by decide

/-- R81: `00011100`, `00101111`, `00011111`; `00001100` is no selector. -/
theorem test_decode_pidsel :
    decodeTableWord 8 0b00011100 = some .decpStd ∧ decodeTableWord 8 0b00101111 = some .decpFuel ∧
      decodeTableWord 8 0b00011111 = some .decpRuntime ∧ decodeTableWord 8 0b00001100 = none := by decide

/-- R72: `11111011111 1000 00000010 00000001 pppppppp` and five `PAD` bytes. -/
theorem test_decode_req :
    decodeTableWord 79
      0b1111101111110000000001000000001000011000101010101010101010101010101010101010101 =
        some (.req 0x0C) := by decide

/-- R75 with `PAD = 0x00` and `PAD = 0x55`. -/
theorem test_decode_req_rows :
    decodeTableWord 79 0x7DF802011C0000000000 = some .reqStd ∧ decodeTableWord 79 0x7DF802012F5555555555 = some .reqFuel ∧
      decodeTableWord 79 0x7DF802011F0000000000 = some .reqRuntime := by decide

/-- R73: `11111101eee llll nnnnnnnn 01000001 pppppppp` and five bytes, with `eee = 011`, `DLC = 4`, `N = 3`. -/
theorem test_decode_rsp :
    decodeTableWord 79
      0b1111110101101000000001101000001000011000001101000000000000000000000000000000000 =
        some (.rsp 0x0C ⟨3, 4, 3, 0x1A, 0, 0, 0, 0⟩) := by decide

/-- R76. -/
theorem test_decode_rsp_rows :
    decodeTableWord 79 0x7E8803411C0600000000 = some (.rspStd ⟨0, 8, 3, 6, 0, 0, 0, 0⟩) ∧
      decodeTableWord 79 0x7EF403412F80AABBCCDD = some (.rspFuel ⟨7, 4, 3, 0x80, 0xAA, 0xBB, 0xCC, 0xDD⟩) ∧
      decodeTableWord 79 0x7E8804411F0100555555 = some (.rspRuntime ⟨0, 8, 4, 1, 0, 0x55, 0x55, 0x55⟩) := by decide

/-- R71, R78: unrelated traffic, the physical request id, another service, a request of another shape. -/
theorem test_decode_refuses :
    decode defaults (.frame 0x0C481122334455667788) = .error .unrelatedId ∧
      decode defaults (.frame 0x7E0802012F0000000000) = .error .unrelatedId ∧
      decode defaults (.frame 0x7E8803422F8000000000) = .error .wrongService ∧
      decode defaults (.frame 0x7DF803012F0000000000) = .error .requestShape ∧
      decode defaults (.frame 0x7DF802012F5555555555) = .error .requestPadding ∧
      decode defaults (.sel 0x0C) = .error .unsupportedPid := by decide

/-! ### The commands (95_test_vectors.md 2.1, 2.2, 2.3, 2.6) -/

/-- E14. -/
theorem test_nop : leaves (exec .nop (base.buildRequest 0x2F)) (fun t => t.stat == 0x200 && valids t == [true, true, false, false]) = true := by
  decide

/-- E5: the frame word, `STAT` and the valid bits. -/
theorem test_enc :
    leaves (exec .enc (base55.ldPid 0x1C)) (fun t =>
      t.frm.pack == 0x7DF802011C5555555555 && t.stat == 0x200 && valids t == [true, true, false, false]) = true := by
  decide

/-- E12: the loaded frame stays. -/
theorem test_enc_no_operand :
    leaves (exec .enc (base.ldFrm (Frame.unpack 0x7E8803412F8000000000))) (fun t =>
      t.frm.pack == 0x7E8803412F8000000000 && t.stat == 0x205 && valids t == [false, true, false, false]) = true := by
  decide

/-- The examples of 41_frame_decode.md R116: accepted, and the wrong service. -/
theorem test_decf :
    leaves (exec .decf (loaded 0x2F 0x7E8803412F8000000000)) (fun t =>
      t.stat == 0x5E0 && t.rv && t.rsp.len == 1 && t.rsp.payload == [0x80]) = true ∧
      leaves (exec .decf (loaded 0x2F 0x7E8803422F8000000000)) (fun t => t.stat == 0x572 && !t.rv) = true := by
  decide

/-- W8 and P3: another pid, and a malformed length. -/
theorem test_decf_refuses :
    leaves (exec .decf (loaded 0x2F 0x7E8803411F8000000000)) (fun t => t.stat == 0x4FA) = true ∧
      leaves (exec .decf (loaded 0x1F 0x7E8807411F0100000000)) (fun t => t.stat == 0x5AA) = true := by
  decide

/-- The example of 42_pid_decode.md R137. -/
theorem test_decp :
    leaves (exec .decp (accepted 0x2F 0x7E8803412F8000000000)) (fun t =>
      t.stat == 0x600 && t.rdg == ⟨2, 0x3200, false⟩ && valids t == [true, true, true, true]) = true := by
  decide

/-- The example of 42_pid_decode.md R137 with an empty payload, and 42_pid_decode.md R132's pid 0x0C. -/
theorem test_decp_errors :
    leaves (exec .decp (accepted 0x2F 0x7E8802412F0000000000)) (fun t => t.stat == 0x603 && !t.dv) = true ∧
      leaves (exec .decp (accepted 0x0C 0x7E8804410C1AF8000000)) (fun t => t.stat == 0x604 && !t.dv) = true := by
  decide

/-- 42_pid_decode.md R134's example: code 6 is recognised. -/
theorem test_decpStd :
    leaves (exec .decpStd (accepted 0x1C 0x7E8803411C0600000000)) (fun t => t.rdg == ⟨1, 6, true⟩) = true := by decide

/-- S2: `[255]` is 25500 over 255. -/
theorem test_decpFuel :
    leaves (exec .decpFuel (accepted 0x2F 0x7E8803412FFF00000000)) (fun t => t.rdg == ⟨2, 25500, false⟩) = true := by decide

/-- 42_pid_decode.md R136's example: `[0x12, 0x34]` is 4660. -/
theorem test_decpRuntime :
    leaves (exec .decpRuntime (accepted 0x1F 0x7E8804411F1234000000)) (fun t => t.rdg == ⟨3, 4660, false⟩) = true := by decide

/-- W12: one payload byte where the runtime needs two. -/
theorem test_decpRuntime_short :
    leaves (exec .decpRuntime (accepted 0x1F 0x7E8803411F8000000000)) (fun t => t.stat == 0x603 && !t.dv) = true := by
  decide

/-! ### The frame rows -/

/-- E7. -/
theorem test_req : leaves (exec (.req 0xFF) base55) (fun t => t.frm.pack == 0x7DF80201FF5555555555 && t.stat == 0x200) = true := by
  decide

/-- E1, E2, E3. -/
theorem test_req_rows :
    leaves (exec .reqStd base) (fun t => t.frm.pack == 0x7DF802011C0000000000) = true ∧
      leaves (exec .reqFuel base) (fun t => t.frm.pack == 0x7DF802012F0000000000) = true ∧
      leaves (exec .reqRuntime base) (fun t => t.frm.pack == 0x7DF802011F0000000000) = true := by decide

/-- 41_frame_decode.md R117: the largest payload. -/
theorem test_rsp :
    leaves (exec (.rsp 0x0C fourBytes) (base.ldPid 0x0C)) (fun t =>
      t.rsp.payload == [1, 2, 3, 4] && t.rsp.sid == 0x41 && t.stat == 0x5E0) = true := by decide

/-- Q17, Q2, Q19 at the block. -/
theorem test_rsp_rows :
    leaves (exec (.rspStd ⟨0, 8, 3, 0xFF, 0, 0, 0, 0⟩) (base.ldPid 0x1C)) (fun t => t.rdg == ⟨1, 255, false⟩ && t.dv) = true ∧
      leaves (exec (.rspFuel oneByte) (base.ldPid 0x2F)) (fun t => t.rdg == ⟨2, 12800, false⟩ && t.dv) = true ∧
      leaves (exec (.rspRuntime ⟨0, 8, 4, 1, 0, 0x55, 0x55, 0x55⟩) (base.ldPid 0x1F)) (fun t =>
        t.rdg == ⟨3, 256, false⟩ && t.dv) = true := by decide

/-! ### Steps from reset -/

/-- X4: `ENC`, `DECF`, `DECP` straight after reset. -/
theorem test_first_command :
    leaves (step (State.reset.withFetchWord 2 0b01)) (fun t => t.stat == 0x205 && t.cmd == 1) = true ∧
      leaves (step (State.reset.withFetchWord 2 0b10)) (fun t => t.stat == 0x405) = true ∧
      leaves (step (State.reset.withFetchWord 2 0b11)) (fun t => t.stat == 0x605) = true := by decide

/-- A selector row and a frame row as the first instruction after reset (R81, R75). -/
theorem test_first_row :
    leaves (step (State.reset.withFetchWord 8 0x2F)) (fun t => t.stat == 0x603) = true ∧
      leaves (step (State.reset.withFetchWord 79 0x7DF802011F5555555555)) (fun t =>
        t.frm.pack == 0x7DF802011F5555555555) = true := by decide

/-! ### The sequencer (95_test_vectors.md 2.4, 2.5) -/

/-- Q5, Q6, Q13: skipped, failed at once, refused by the PID decoder. -/
theorem test_query :
    awaitAnswer defaults 0x1F [.frame fuelAnswer, .frame (frame8 0x7E8 ⟨4, 0x41, 0x1F, 1, 0, 0, 0, 0⟩)] =
        .ok (.runtimeSeconds 256) ∧
      awaitAnswer defaults 0x2F [.frame (frame8 0x7E8 ⟨3, 0x42, 0x2F, 0x80, 0, 0, 0, 0⟩), .frame fuelAnswer] =
        .err (.protocolError .wrongService) ∧
      awaitAnswer defaults 0x0C [.frame (frame8 0x7E8 ⟨4, 0x41, 0x0C, 0x1A, 0xF8, 0, 0, 0⟩)] = .err .unsupportedPid := by
  decide

/-- T4: the slots and `SIX` after a failed send. -/
theorem test_session :
    sessionResult defaults ⟨true, [.frame (frame8 0x7E8 ⟨3, 0x41, 0x1C, 6, 0, 0, 0, 0⟩)]⟩ ⟨false, []⟩ ⟨true, []⟩ =
      (⟨.done (.ok (.obdStandard 6 true)), .done (.err .transportError), .notAttempted⟩, 1) := by decide

/-! ### Witnesses: concrete data that meets the hypotheses of each statement, clause by clause -/

def issuing (a : Act) : State := { base with host := [a] }

theorem test_witness_ResetAnyState : State.resetAsserted { base with rstIn := [true] } = true := by decide

theorem test_witness_IdleStep : base.resetAsserted = false ∧ base.seq = [] ∧ base.host = [] := by decide

theorem test_witness_StepRunsCommand :
    (issuing (.cmd 1)).resetAsserted = false ∧ (issuing (.cmd 1)).nextAct = some (.cmd 1) ∧
      decode (issuing (.cmd 1)).params (.cmd 1) = .ok .enc := by decide

theorem test_witness_StepRunsCommand_selector :
    let s := { accepted 0x2F 0x7E8803412F8000000000 with seq := [.cmd 3] }
    s.resetAsserted = false ∧ s.nextAct = some (.cmd 3) ∧ s.rv = true ∧
      decode s.params (.sel s.rsp.pid) = .ok .decpFuel := by decide

theorem test_witness_StepRunsFrameWord :
    let s := issuing (.frame 0x7DF802011C0000000000)
    let t := issuing (.frame 0x12380000000000000000)
    s.resetAsserted = false ∧ s.nextAct = some (.frame 0x7DF802011C0000000000) ∧
      decode s.params (.frame 0x7DF802011C0000000000) = .ok .reqStd ∧ t.resetAsserted = false ∧
      t.nextAct = some (.frame 0x12380000000000000000) ∧
      decode t.params (.frame 0x12380000000000000000) = .error .unrelatedId := by decide

/-- A step from a state with every group valid that meets the invariant. -/
theorem test_witness_StepKeepsInv :
    ∃ s t : State, s.dv = true ∧ s.Inv ∧ step s = .next t := by
  refine ⟨{ (accepted 0x2F 0x7E8803412F8000000000).runDecp with host := [.ldpid 0x1C] }, _, rfl, ⟨?_, ?_, ?_, ?_⟩, rfl⟩
  · intro _; decide
  · intro _; exact ⟨rfl, .fuelLevelPercent (12800 / 255), by decide +kernel, by decide +kernel⟩
  · exact ⟨fun h => absurd h (by decide), fun h => absurd h (by decide), trivial, trivial, trivial, trivial⟩
  · intro g v h; cases h

/-- `Idle` to `AwaitingResponse` (43_query_sequencer.md R150). -/
theorem test_witness_QueryTransitions :
    let s := { base with conn := .opened, lastFrame := some (requestFrame defaults 0x2F), oracle := [⟨true, []⟩],
                         seq := [.seqSend] }
    s.resetAsserted = false ∧ leaves (step s) (fun t => t.qst == .awaitingResponse && t.params == s.params) = true := by
  decide

theorem test_witness_ResultsKept :
    let s := { issuing .openConn with opens := [⟨true, []⟩] }
    s.resetAsserted = false ∧ s.nextAct = some .openConn ∧ Act.openConn ≠ .session ∧ leaves (step s) (fun _ => true) = true := by
  decide

theorem test_witness_ResultsKept_conn :
    let s := issuing (.ldpid 0)
    s.nextAct = some (.ldpid 0) ∧ Act.ldpid 0 ≠ .openConn ∧ Act.ldpid 0 ≠ .closeConn ∧ Act.ldpid 0 ≠ .sessionOpen ∧
      leaves (step s) (fun _ => true) = true := by
  decide

/-- The boundaries of `N` for each response row (30_encoding.md R73, R76). -/
theorem test_witness_EncodeThenDecode :
    defaults.valid = true ∧
      [Instr.rsp 0x0C noPayload, .rsp 0x0C fourBytes, .rspStd oneByte, .rspFuel oneByte, .rspRuntime twoBytes,
        .req 0xFF].all (WellFormed defaults) = true := by decide

theorem test_witness_DecodeThenEncode :
    decode defaults (.frame 0x7E8803412F8000000000) = .ok (.rspFuel ⟨0, 8, 3, 0x80, 0, 0, 0, 0⟩) := by decide

theorem test_witness_DecodeRejects :
    (Frame.unpack 0x7F0803412F8000000000).id ≠ 0x7DF ∧ idOkAt (Frame.unpack 0x7F0803412F8000000000).id = false ∧
      idOkAt (Frame.unpack 0x7EF803402F8000000000).id = true ∧ (Frame.unpack 0x7EF803402F8000000000).data.d1 ≠ 0x41 ∧
      (0x0C : Byte) ≠ defaults.pidStd ∧ (0x0C : Byte) ≠ 0x2F ∧ (0x0C : Byte) ≠ defaults.pidRuntime := by decide

theorem test_witness_EncEffect : (base.ldPid 0x1C).pv = true ∧ base.pv = false := by decide

/-- The four values around the ends of the byte range (E6 to E9). -/
theorem test_witness_EncodeRequestRange :
    encodeRequest defaults 0 = .ok (frame8 0x7DF ⟨2, 1, 0, 0, 0, 0, 0, 0⟩) ∧
      encodeRequest defaults 255 = .ok (frame8 0x7DF ⟨2, 1, 0xFF, 0, 0, 0, 0, 0⟩) ∧
      encodeRequest defaults (-1) = .err .rangeError ∧ encodeRequest defaults 256 = .err .rangeError := by decide

theorem test_witness_OwnRequestRefused :
    encodeRequest defaults 0x2F = .ok (frame8 0x7DF ⟨2, 1, 0x2F, 0, 0, 0, 0, 0⟩) := by decide

theorem test_witness_ResponseRoundTrip :
    encodeRequest defaults (0x2F : Byte).toNat = .ok (frame8 0x7DF ⟨2, 1, 0x2F, 0, 0, 0, 0, 0⟩) ∧
      idOkAt fuelAnswer.arbitrationId = true ∧ 2 ≤ fuelAnswer.data.d0.toNat ∧ fuelAnswer.data.d0.toNat ≤ 6 ∧
      fuelAnswer.data.d0.toNat + 1 ≤ fuelAnswer.dlc.val ∧ fuelAnswer.data.d1 = 0x01 + 0x40 ∧ fuelAnswer.data.d2 = 0x2F := by
  decide

/-- A good and a bad length byte under the wrong service (F18 to F20). -/
theorem test_witness_WrongServiceRefused :
    idOkAt 0x7EF = true ∧ (0x42 : Byte) ≠ 0x41 ∧ lenOkAt 8 ⟨6, 0x42, 0, 0, 0, 0, 0, 0⟩ = true ∧
      lenOkAt 8 ⟨7, 0x42, 0, 0, 0, 0, 0, 0⟩ = false := by decide

theorem test_witness_PaddingIgnored :
    let f : CanFrame := fuelAnswer
    let g : CanFrame := frame8 0x7EF ⟨0x03, 0x41, 0x2F, 0x80, 9, 8, 7, 6⟩
    f ≠ g ∧ f.dlc = g.dlc ∧ idOkAt f.arbitrationId = idOkAt g.arbitrationId ∧ f.data.d0 = g.data.d0 ∧
      f.data.d1 = g.data.d1 ∧ f.data.d2 = g.data.d2 ∧ f.data.d3 = g.data.d3 ∧ f.data.d0.toNat = 3 := by decide

theorem test_witness_DecfEffect :
    base.fv = false ∧ (loaded 0x2F 0x7E8803422F8000000000).fv = true ∧ (loaded 0x2F 0x7E8803422F8000000000).pv = true ∧
      decodeResponse fuelAnswer 0x2F = .ok ⟨0x41, 0x2F, [0x80]⟩ ∧
      decodeResponse fuelAnswer 0x1F = .err (.protocolError .pidMismatch) ∧
      fuelAnswer.dlc.val = (loaded 0x2F 0x7E8803412F8000000000).frm.dlc.toNat ∧
      fuelAnswer.data = (loaded 0x2F 0x7E8803412F8000000000).frm.data := by decide

/-- `DLC` 9 and 15, in and out of the id range. -/
theorem test_witness_DecfOversize :
    (loaded 0 0x7E890000000000000000).fv = true ∧ (loaded 0 0x7E890000000000000000).pv = true ∧
      9 ≤ (loaded 0 0x7E890000000000000000).frm.dlc.toNat ∧ 9 ≤ (loaded 0 0x123F0000000000000000).frm.dlc.toNat ∧
      idOkAt (loaded 0 0x7E890000000000000000).frm.id = true ∧
      idOkAt (loaded 0 0x123F0000000000000000).frm.id = false := by decide

/-- The conditions of `DecfAccepts` at a state. -/
def acceptable (s : State) : Bool :=
  s.fv && s.pv && decide (s.frm.dlc.toNat ≤ 8) && idOkAt s.frm.id && lenOkAt s.frm.dlc.toNat s.frm.data
    && svcOkAt s.frm.dlc.toNat s.frm.data && pidOkAt s.frm.dlc.toNat s.frm.data s.pidr

/-- The shortest and the longest response (41_frame_decode.md R117). -/
theorem test_witness_DecfAccepts :
    acceptable (loaded 0x2F 0x7E8302412F0000000000) = true ∧ acceptable (loaded 0x2F 0x7EF806412F0102030400) = true := by
  decide

/-- One frame for each kind (41_frame_decode.md R117). -/
theorem test_witness_DecfRefuses :
    [(0x7F0803412F8000000000 : FrameWord), 0x7E8807412F0102030405, 0x7E8803422F8000000000, 0x7E8803411F8000000000].all
      (fun w => (loaded 0x2F w).fv && (loaded 0x2F w).pv && decide ((loaded 0x2F w).frm.dlc.toNat ≤ 8)
        && !acceptable (loaded 0x2F w)) = true := by decide

theorem test_witness_DecodePidErrors :
    decodePid defaults 0x0C [0x1A, 0xF8] = .err .unsupportedPid ∧ defaults.kindOf 0x1F = some .runtime ∧
      decodePid defaults 0x1F [0x01] = .err .decodeError := by decide

/-- `FuelReading`, `RuntimeReading`, `SourceEndToEnd`: the constraint of 00_scope.md R7 at the defaults. -/
theorem test_witness_ParamsValid : defaults.valid = true ∧ (0 : Byte).toNat < (255 : Byte).toNat := by decide

theorem test_witness_DecpEffect :
    (accepted 0x2F 0x7E8803412F8000000000).rv = true ∧ (accepted 0x2F 0x7E8803411F8000000000).rv = false := by decide

theorem test_witness_DecpErrors :
    let s := accepted 0x0C 0x7E8804410C1AF8000000
    let t := accepted 0x1F 0x7E8803411F8000000000
    s.rv = true ∧ s.params.kindOf s.rsp.pid = none ∧ t.rv = true ∧ t.params.kindOf t.rsp.pid = some .runtime ∧
      t.rsp.len.toNat = 1 ∧ PidKind.need .runtime = 2 := by decide

/-- `DecpStandard`, `DecpFuel`, `DecpRuntime`, and `DecpOperandInvalid` at reset. -/
theorem test_witness_DecpRows :
    let s := accepted 0x1C 0x7E8803411C0600000000
    let f := accepted 0x2F 0x7E8803412F8000000000
    let r := accepted 0x1F 0x7E8804411F0100000000
    s.rv = true ∧ s.rsp.len.toNat = 1 ∧ s.rsp.pid = s.params.pidStd ∧ f.rv = true ∧ f.rsp.len.toNat = 1 ∧
      f.rsp.pid = 0x2F ∧ f.params.valid = true ∧ r.rv = true ∧ r.rsp.len.toNat = 2 ∧ r.rsp.pid = r.params.pidRuntime ∧
      base.rv = false := by decide

theorem test_witness_ReadingGroupFaithful :
    let s := accepted 0x2F 0x7E8803412F8000000000
    s.rv = true ∧ decodePid s.params s.rsp.pid s.rsp.payload = .ok (.fuelLevelPercent (12800 / 255)) := by decide +kernel

/-- `CommandsIdempotent`, `StatFields`, `RowsLeaveAround`: each ends in a next state. -/
theorem test_witness_NextState :
    [Instr.nop, .enc, .decf, .decp, .decpFuel, .reqStd, .rspFuel oneByte].all
      (fun i => leaves (exec i (loaded 0x2F 0x7E8803412F8000000000)) (fun _ => true)) = true := by decide

theorem test_witness_DownstreamInvalidated :
    let s := (accepted 0x2F 0x7E8803412F8000000000).runDecp
    s.dv = true ∧ s.rv = true ∧ s.pv = true ∧ s.fv = true ∧ leaves (exec .decp s) (fun t => t.dv) = true := by decide

theorem test_witness_RequestRows :
    defaults.pidStd = 0x1C ∧ defaults.pidRuntime = 0x1F ∧ Instr.req 0xFF ≠ .req 0 := by decide

/-- The least and the greatest `N` (30_encoding.md R77). -/
theorem test_witness_ResponseRecognised :
    (base.ldPid 0x0C).pv = true ∧ (base.ldPid 0x0C).pidr = 0x0C ∧ noPayload.fits 2 = true ∧ fourBytes.fits 2 = true := by
  decide

/-- Each row at its least `N` and least `DLC`. -/
theorem test_witness_ResponseRowsRead :
    [PidKind.standard, .fuel, .runtime].all (fun k =>
      let s := base.ldPid (defaults.pidOf k)
      s.params.valid && s.pv && s.pidr == s.params.pidOf k
        && (match k with
          | .standard => oneByte
          | .fuel => oneByte
          | .runtime => twoBytes).fitsKind k) = true := by decide

theorem test_witness_ResponseRowsRefused :
    base.pv = false ∧ (base.ldPid 0x1F).pv = true ∧ (base.ldPid 0x1F).pidr ≠ defaults.pidOf .fuel ∧
      noPayload.fits 2 = true := by decide

/-- Both values of each valid bit. -/
theorem test_witness_HostReads :
    valids base = [false, false, false, false] ∧
      valids (accepted 0x2F 0x7E8803412F8000000000).runDecp = [true, true, true, true] := by decide

theorem test_witness_ReceiveAnswers :
    let s := { base with conn := .opened, rxq := [.frame fuelAnswer, .failure] }
    s.conn = .opened ∧ s.rxq = .frame fuelAnswer :: [.failure] ∧ s.rxq.tail = .failure :: [] ∧ base.rxq = [] := by decide

theorem test_witness_WrapperFrame : ([] : List Byte).length ≤ 4 ∧ ([1, 2, 3, 4] : List Byte).length ≤ 4 := by decide

/-- One frame for each clause (43_query_sequencer.md R155's examples). -/
theorem test_witness_Classification :
    idOkAt 0x123 = false ∧ pidOkAt 8 ⟨4, 0x41, 0x1F, 1, 0, 0, 0, 0⟩ 0x2F = false ∧
      idOkAt fuelAnswer.arbitrationId = true ∧ pidOkAt fuelAnswer.dlc.val fuelAnswer.data 0x2F = true ∧
      classify (checks fuelAnswer 0x2F) = .accept ∧ (base.ldPid 0x2F).pv = true ∧ (base.ldPid 0x2F).pidr = 0x2F := by
  decide

theorem test_witness_FirstMatchWins :
    AllSkipped 0x2F [.frame (frame8 0x123 ⟨9, 0x99, 0x99, 0x99, 0x99, 0x99, 0x99, 0x99⟩)] ∧
      classify (checks fuelAnswer 0x2F) ≠ .skip := by
  refine ⟨fun e he => ⟨_, by simpa using he, by decide⟩, by decide⟩

theorem test_witness_QueryErrors :
    queryResult defaults 0x2F ⟨false, []⟩ = .err .transportError ∧ queryResult defaults 0x2F ⟨true, []⟩ = .err .timeoutError := by
  decide

theorem test_witness_QueryRefines :
    let s := { base with conn := .opened, host := [.query 0x2F], oracle := [⟨true, [.frame fuelAnswer]⟩] }
    s.rstIn = [] ∧ s.seq = [] ∧ s.host = .query 0x2F :: [] ∧ s.conn = .opened ∧ s.qst = .idle ∧
      s.oracle = ⟨true, [.frame fuelAnswer]⟩ :: [] := by decide

theorem test_witness_SessionRefines :
    let s := { base with host := [.session], opens := [⟨true, []⟩], oracle := [⟨true, []⟩, ⟨true, []⟩, ⟨true, []⟩] }
    s.rstIn = [] ∧ s.seq = [] ∧ s.host = .session :: [] ∧ s.qst = .idle ∧ s.opens = ⟨true, []⟩ :: [] ∧
      s.oracle = ⟨true, []⟩ :: ⟨true, []⟩ :: ⟨true, []⟩ :: [] := by decide

theorem test_witness_SessionOpenFails :
    let s := { base with host := [.session], opens := [⟨false, []⟩] }
    s.rstIn = [] ∧ s.seq = [] ∧ s.host = .session :: [] ∧ s.opens = ⟨false, []⟩ :: [] := by decide

/-- The queue an open leaves is an input (93_implementation_defined.md U14; log entry 27), and what the bus delivers comes
after it (log entry 28). -/
theorem test_open_queue :
    let s := ({ base with opens := [⟨true, [.failure]⟩] }.openConnection).arrive (.frame fuelAnswer)
    s.conn = .opened ∧ s.rxq = [.failure, .frame fuelAnswer] := by decide

/-- A host that holds one of the sequencer's own micro steps stops (30_encoding.md R82; log entry 31). -/
theorem test_micro_step_refused :
    [Act.seqSend, .seqReceive, .seqReading, .sessionOpen, .sessionStore 0].all
      (fun a => match stepOf { base with host := [a] } with
        | .fault .notHostStep => true
        | _ => false) = true := by decide

theorem test_witness_SourceEndToEnd : defaults.valid = true ∧ idOkAt 0x7E7 = false ∧ idOkAt 0x7F0 = false := by decide

end Sys2Proof.Tests
end

section
/-! SUPPORT. Proofs about the state: what the rows leave alone, the updates a step is made of, and the invariant they
keep (10_state.md). -/

namespace Sys2Proof.Machine

open Relation (ReflTransGen)

/-! ### The reading group -/

/-- `DECP` puts into `RDG` a group that reads back as the reading of `RSP` (10_state.md R31). -/
theorem reading?_of_decodePid {p : Params} {g : RspGroup} {v : Reading}
    (h : decodePid p g.pid g.payload = .ok v) : (RdgGroup.ofReading v g.pl.pl0).reading? = some v := by
  unfold decodePid at h
  split at h
  · cases h
  next k _ =>
    have hlen : 1 ≤ g.len.toNat := by
      by_contra h0
      have hnil : g.payload = [] := by simp [RspGroup.payload, Nat.lt_one_iff.mp (not_le.mp h0)]
      rw [hnil, (decodeAs_err_iff p k [] _).2 ⟨by cases k <;> decide, rfl⟩] at h
      cases h
    rw [payload_head hlen] at h
    exact reading?_ofReading h

/-! ### Rows write the block's registers only -/

/-- Whatever the block's registers become, everything around them is as it was (10_state.md R36). -/
theorem sameAround_setBlock (s : State) (pidr : Byte) (pv : Bool) (frm : Frame) (fv : Bool) (rsp : RspGroup)
    (rv : Bool) (rdg : RdgGroup) (dv : Bool) (cmd : CmdCode) (stat : StatWord) :
    s.SameAround { s with pidr, pv, frm, fv, rsp, rv, rdg, dv, cmd, stat } := by
  simp [State.SameAround]

theorem sameAround_runEnc (s : State) : s.SameAround s.runEnc := by
  rw [runEnc_frame]; exact sameAround_setBlock ..

theorem sameAround_runDecf (s : State) : s.SameAround s.runDecf := by
  rw [runDecf_frame]; exact sameAround_setBlock ..

theorem sameAround_runDecp (s : State) : s.SameAround s.runDecp := by
  rw [runDecp_frame]; exact sameAround_setBlock ..

theorem sameAround_runDecpAs (s : State) (k : PidKind) : s.SameAround (s.runDecpAs k) := by
  rw [runDecpAs_frame]; exact sameAround_setBlock ..

theorem sameAround_buildRequest (s : State) (p : Byte) : s.SameAround (s.buildRequest p) := by
  rw [buildRequest_frame]; exact sameAround_setBlock ..

theorem sameAround_recognise (s : State) (f : Frame) : s.SameAround (s.recognise f) := by
  rw [recognise_frame]; exact sameAround_setBlock ..

theorem sameAround_interpret (s : State) (f : Frame) : s.SameAround (s.interpret f) := by
  rw [interpret_frame]; exact sameAround_setBlock ..

/-! ### The updates a step is made of -/

/-- The primitive updates of the state. Every step is a sequence of them (`step_updates`), so what each of them keeps,
every step keeps. -/
inductive Update (s : State) : State → Prop where
  -- the block (10_state.md R28, R29, R32; 30_encoding.md R80)
  | ldPid (p : Byte) : Update s (s.ldPid p)
  | ldFrm (f : Frame) : Update s (s.ldFrm f)
  | writeCmd (c : CmdCode) : Update s (s.writeCmd c)
  | runEnc : Update s s.runEnc
  | runDecf : Update s s.runDecf
  | runDecp : Update s s.runDecp
  -- what is answered to the host (10_state.md R31)
  | rdRdg : Update s s.rdRdg
  | setAnswer {a : Answer} (h : ∀ g, a ≠ .reading g) : Update s { s with answer := a }
  | keepFrame (f : Frame) : Update s { s with lastFrame := some f }
  -- the transport (43_query_sequencer.md R152, R164)
  | transportSend (g : CanFrame) : Update s (s.transportSend g)
  | transportReceive : Update s s.transportReceive
  | arrive (e : RxEvent) : Update s (s.arrive e)
  | openConnection : Update s s.openConnection
  | closeConnection : Update s s.closeConnection
  -- the sequencer (43_query_sequencer.md R150, R154, R161)
  | push (as : List Act) : Update s (s.push as)
  | setQpid (p : Byte) : Update s { s with qpid := p }
  | setSix (k : BitVec 2) : Update s { s with six := k }
  | await : Update s { s with qst := .awaitingResponse }
  | endWithError (e : Error) : Update s (s.endQuery (.err e))
  | endWithReading {g : RdgGroup} {v : Reading} (ha : s.answer = .reading g) (hv : g.reading? = some v) :
      Update s (s.endQuery (.ok v))
  | leaveOutcome : Update s { s with qst := .idle }
  | clearResults : Update s { s with res := noResults }
  | storeResult (k : Fin 3) : Update s { s with res := s.res.store k s.qout }
  -- step boundaries and reset (70_reset_and_hazards.md R210, R211)
  | sampled : Update s s.sampled
  | popAct : Update s s.popAct
  | applyReset : Update s s.applyReset

/-- A finite sequence of updates. -/
abbrev Updates : State → State → Prop := ReflTransGen Update

/-! ### Every act is a sequence of updates -/

theorem updates_buildRequest (s : State) (p : Byte) : Updates s (s.buildRequest p) :=
  ((ReflTransGen.single (.ldPid p)).tail (.writeCmd 1)).tail .runEnc

theorem updates_recognise (s : State) (f : Frame) : Updates s (s.recognise f) :=
  ((ReflTransGen.single (.ldFrm f)).tail (.writeCmd 2)).tail .runDecf

/-- A frame taken to its reading is recognised, and goes through `DECP` when it was accepted (30_encoding.md R83). -/
theorem interpret_cases (s : State) (f : Frame) :
    s.interpret f = s.recognise f ∨ s.interpret f = ((s.recognise f).writeCmd 3).runDecp := by
  unfold State.interpret
  split
  · exact .inr rfl
  · exact .inl rfl

theorem updates_interpret (s : State) (f : Frame) : Updates s (s.interpret f) := by
  rcases interpret_cases s f with h | h <;> rw [h]
  · exact updates_recognise s f
  · exact ((updates_recognise s f).tail (.writeCmd 3)).tail .runDecp

theorem actCmd_updates {c : CmdCode} {s t : State} (h : actCmd c s = .next t) : Updates s t := by
  rw [actCmd_eq] at h
  rcases decodeCmd_cases c with hc | hc | hc | hc <;> rw [hc] at h <;> cases h
  · exact .single (.writeCmd c)
  · exact (ReflTransGen.single (.writeCmd c)).tail .runEnc
  · exact (ReflTransGen.single (.writeCmd c)).tail .runDecf
  · exact (ReflTransGen.single (.writeCmd c)).tail .runDecp

theorem actFrame_updates {w : FrameWord} {s t : State} (h : actFrame w s = .next t) : Updates s t := by
  rcases actFrame_cases w s with ⟨b, hb⟩ | ⟨f, hf⟩ | ⟨f, hf⟩
  · rw [hb] at h; cases h; exact updates_buildRequest s b
  · rw [hf] at h; cases h; exact updates_recognise s f
  · rw [hf] at h; cases h; exact updates_interpret s f

theorem rdFrm_updates (s : State) : Updates s s.rdFrm := by
  unfold State.rdFrm
  split
  · exact (ReflTransGen.single (.keepFrame s.frm)).tail (.setAnswer (a := .frame s.frm) nofun)
  · exact .single (.setAnswer nofun)

theorem rdRsp_update (s : State) : Update s s.rdRsp := by
  unfold State.rdRsp
  split
  · exact .setAnswer nofun
  · exact .setAnswer nofun

theorem actRdQpid_updates {s t : State} (h : actRdQpid s = .next t) : Updates s t := by
  unfold actRdQpid at h
  split at h
  · cases h
  · cases h; exact .single (.setAnswer nofun)

theorem actSend_updates {s t : State} (h : actSend s = .next t) : Updates s t := by
  obtain ⟨g, rfl⟩ := sendThen_next h
  exact .single (.transportSend g)

theorem actRecv_updates {s t : State} (h : actRecv s = .next t) : Updates s t := by
  unfold actRecv at h
  split at h
  · cases h
  · cases h; exact .single .transportReceive

theorem actQuery_updates {p : Byte} {s t : State} (h : actQuery p s = .next t) : Updates s t := by
  unfold actQuery at h
  split at h
  · cases h
  · cases h; exact (ReflTransGen.single (.setQpid p)).tail (.push _)
  · cases h

theorem actTakeOutcome_updates {s t : State} (h : actTakeOutcome s = .next t) : Updates s t := by
  unfold actTakeOutcome at h
  split at h
  · cases h; exact (ReflTransGen.single .leaveOutcome).tail (.setAnswer (a := .outcome s.qout) nofun)
  · cases h

theorem actSeqSend_updates {s t : State} (h : actSeqSend s = .next t) : Updates s t := by
  unfold actSeqSend at h
  split at h
  · obtain ⟨g, rfl⟩ := sendThen_next h
    split
    · exact ((ReflTransGen.single (.transportSend g)).tail .await).tail (.push _)
    · exact (ReflTransGen.single (.transportSend g)).tail (.endWithError _)
  · cases h

theorem actSeqReceive_updates {s t : State} (h : actSeqReceive s = .next t) : Updates s t := by
  unfold actSeqReceive at h
  split at h
  · cases h
  · split at h
    · cases h; exact (ReflTransGen.single .transportReceive).tail (.endWithError _)
    · cases h; exact (ReflTransGen.single .transportReceive).tail (.endWithError _)
    · cases h; exact (ReflTransGen.single .transportReceive).tail (.push _)
  · cases h

theorem actSeqClassify_updates {s t : State} (h : actSeqClassify s = .next t) : Updates s t := by
  unfold actSeqClassify at h
  split at h
  · split at h
    · cases h; exact .single (.push _)
    · cases h; exact .single (.endWithError _)
    · cases h; exact .single (.push _)
  · cases h
  · cases h

theorem actSeqReading_updates {s t : State} (h : actSeqReading s = .next t) : Updates s t := by
  unfold actSeqReading at h
  split at h
  next g _ ha =>
    split at h
    next v hv => cases h; exact .single (.endWithReading ha hv)
    next => cases h
  · cases h; exact .single (.push _)
  · cases h
  · cases h

theorem actSeqFinish_updates {s t : State} (h : actSeqFinish s = .next t) : Updates s t := by
  unfold actSeqFinish at h
  split at h
  · split at h
    · cases h; exact .single (.endWithError _)
    · cases h
  · cases h
  · cases h

theorem actSessionOpen_updates {s t : State} (h : actSessionOpen s = .next t) : Updates s t := by
  unfold actSessionOpen at h
  split at h
  · cases h; exact (ReflTransGen.single .openConnection).tail (.push _)
  · cases h; exact .single .openConnection

theorem afterQuery_updates (s : State) (k : Fin 3) : Updates s (s.afterQuery k) := by
  unfold State.afterQuery
  split
  · exact .single (.push _)
  · split
    · exact .single (.push _)
    · exact .single (.push _)
    · exact (ReflTransGen.single (.setSix 3)).tail (.push _)

theorem actSessionStore_updates {k : Fin 3} {s t : State} (h : actSessionStore k s = .next t) : Updates s t := by
  unfold actSessionStore at h
  split at h
  · cases h
    exact ((ReflTransGen.single (.storeResult k)).tail .leaveOutcome).trans (afterQuery_updates _ k)
  · cases h

/-- Every act is a sequence of updates. -/
theorem runAct_updates {a : Act} {s t : State} (h : runAct a s = .next t) : Updates s t := by
  cases a with
  | ldpid p => cases h; exact .single (.ldPid p)
  | ldfrm f => cases h; exact .single (.ldFrm f)
  | cmd c => exact actCmd_updates h
  | frame w => exact actFrame_updates h
  | rdfrm => cases h; exact rdFrm_updates s
  | rdrsp => cases h; exact .single (rdRsp_update s)
  | rdrdg => cases h; exact .single .rdRdg
  | rdstat => cases h; exact .single (.setAnswer nofun)
  | rdcmd => cases h; exact .single (.setAnswer nofun)
  | wrstat _ => cases h; exact .refl
  | rdqpid => exact actRdQpid_updates h
  | rdres => cases h; exact .single (.setAnswer nofun)
  | send => exact actSend_updates h
  | recv => exact actRecv_updates h
  | arrive e => cases h; exact .single (.arrive e)
  | openConn => cases h; exact .single .openConnection
  | closeConn => cases h; exact .single .closeConnection
  | encodeRequest _ => cases h; exact .single (.push _)
  | decodeResponse _ _ => cases h; exact .single (.push _)
  | decodePid p bs =>
    simp only [runAct] at h
    split at h
    · cases h; exact .single (.push _)
    · cases h
  | query p => exact actQuery_updates h
  | takeOutcome => exact actTakeOutcome_updates h
  | session => cases h; exact (ReflTransGen.single .clearResults).tail (.push _)
  | seqSend => exact actSeqSend_updates h
  | seqReceive => exact actSeqReceive_updates h
  | seqClassify => exact actSeqClassify_updates h
  | seqReading => exact actSeqReading_updates h
  | seqFinish => exact actSeqFinish_updates h
  | sessionOpen => exact actSessionOpen_updates h
  | sessionQuery k => cases h; exact (ReflTransGen.single (.setSix _)).tail (.push _)
  | sessionStore k => exact actSessionStore_updates h

/-- Every step is a sequence of updates. -/
theorem step_updates {s t : State} (h : step s = .next t) : Updates s t := by
  cases hr : s.resetAsserted with
  | true =>
    rw [step_of_reset hr] at h
    cases h
    exact (ReflTransGen.single .sampled).tail .applyReset
  | false =>
    cases ha : s.nextAct with
    | none =>
      rw [step_of_none hr ha] at h
      cases h
      exact .single .sampled
    | some a =>
      exact ((ReflTransGen.single .sampled).tail .popAct).trans (runAct_updates (step_next_act hr ha h))

/-- What every update keeps, every step keeps. -/
theorem step_keeps {P : State → Prop} (hP : ∀ {s t}, Update s t → P s → P t) {s t : State}
    (h : step s = .next t) (hs : P s) : P t := by
  have hu := step_updates h
  clear h
  induction hu with
  | refl => exact hs
  | tail _ hu ih => exact hP hu ih

/-! ### The invariant -/

theorem State.Inv.responseInv {s : State} (hs : s.Inv) : s.ResponseInv := by
  obtain ⟨hrsp, -⟩ := hs; exact hrsp

theorem State.Inv.answerInv {s : State} (hs : s.Inv) : s.AnswerInv := by
  obtain ⟨-, -, -, hanswer⟩ := hs; exact hanswer

theorem responseInv_of_invalid {s : State} (h : s.rv = false) : s.ResponseInv := by
  simp [State.ResponseInv, h]

theorem readingInv_of_invalid {s : State} (h : s.dv = false) : s.ReadingInv := by
  simp [State.ReadingInv, h]

/-- An update inside the block keeps the invariant when it keeps the block's part of it. -/
theorem State.Inv.of_sameAround {s t : State} (hs : s.Inv) (h : s.SameAround t) (hrsp : t.ResponseInv)
    (hrdg : t.ReadingInv) : t.Inv := by
  obtain ⟨-, -, hquery, hanswer⟩ := hs
  obtain ⟨-, hqst, -, hqout, -, hres, -, -, -, -, -, -, -, hans, -⟩ := h
  refine ⟨hrsp, hrdg, ?_, ?_⟩
  · rwa [State.QueryInv, hqst, hqout, hres]
  · rwa [State.AnswerInv, hans]

/-- Downstream invalidation meets the block's part of the invariant (10_state.md R36). -/
theorem State.Inv.of_invalidated {s t : State} (hs : s.Inv) (h : s.SameAround t) (hrv : t.rv = false)
    (hdv : t.dv = false) : t.Inv :=
  hs.of_sameAround h (responseInv_of_invalid hrv) (readingInv_of_invalid hdv)

theorem inv_ldPid {s : State} (hs : s.Inv) (p : Byte) : (s.ldPid p).Inv :=
  hs.of_invalidated (sameAround_setBlock ..) rfl rfl

theorem inv_ldFrm {s : State} (hs : s.Inv) (f : Frame) : (s.ldFrm f).Inv :=
  hs.of_invalidated (sameAround_setBlock ..) rfl rfl

theorem inv_runEnc {s : State} (hs : s.Inv) : s.runEnc.Inv :=
  hs.of_invalidated (sameAround_runEnc s) (by rw [runEnc_frame]) (by rw [runEnc_frame])

/-- A response put into `RSP` is to the pid in `PIDR` and was built from valid operands (10_state.md R24). -/
theorem responseInv_putResponse {s : State} {f : CanFrame} {r : ObdResponse} (hfv : s.fv = true) (hpv : s.pv = true)
    (h : decodeResponse f s.pidr = .ok r) : (s.putResponse r).ResponseInv := by
  obtain ⟨hsid, hpid, -, hlen⟩ := decodeResponse_ok_facts h
  refine fun _ => ⟨hpv, hfv, hsid, hpid, ?_⟩
  have : (BitVec.ofNat 3 r.payload.length).toNat ≤ 4 := (Nat.mod_le _ _).trans hlen
  exact this

theorem responseInv_runDecf (s : State) : s.runDecf.ResponseInv := by
  rcases runDecf_cases s with ⟨hfv, hpv, f, r, -, hr, h⟩ | ⟨-, -, f, k, -, -, h⟩ | ⟨-, -, -, h⟩ | ⟨-, h⟩ <;> rw [h]
  · exact responseInv_putResponse hfv hpv hr
  all_goals exact responseInv_of_invalid rfl

theorem inv_runDecf {s : State} (hs : s.Inv) : s.runDecf.Inv :=
  hs.of_sameAround (sameAround_runDecf s) (responseInv_runDecf s)
    (readingInv_of_invalid (by rw [runDecf_frame]))

/-- `DECP` leaves `RSP` and its operands as they were (10_state.md R36). -/
theorem responseInv_runDecp {s : State} (hs : s.ResponseInv) : s.runDecp.ResponseInv := by
  rw [runDecp_frame]; exact hs

theorem readingInv_runDecp (s : State) : s.runDecp.ReadingInv := by
  rcases runDecp_cases s with ⟨hrv, v, hv, h⟩ | ⟨-, e, -, h⟩ | ⟨-, h⟩ <;> rw [h]
  · exact fun _ => ⟨hrv, v, hv, reading?_of_decodePid hv⟩
  all_goals exact readingInv_of_invalid rfl

theorem inv_runDecp {s : State} (hs : s.Inv) : s.runDecp.Inv :=
  hs.of_sameAround (sameAround_runDecp s) (responseInv_runDecp hs.responseInv) (readingInv_runDecp s)

theorem inv_setAnswer {s : State} (hs : s.Inv) {a : Answer} (ha : ∀ g, a ≠ .reading g) :
    State.Inv { s with answer := a } := by
  obtain ⟨hrsp, hrdg, hquery, -⟩ := hs
  exact ⟨hrsp, hrdg, hquery, fun g _ hg => absurd hg (ha g)⟩

/-- The reading `RDRDG` answers is the one of the response in `RSP`, so it lies in its range (10_state.md R26, R31). -/
theorem inv_rdRdg {s : State} (hs : s.Inv) : s.rdRdg.Inv := by
  unfold State.rdRdg
  split
  next hdv =>
    obtain ⟨hrsp, hrdg, hquery, -⟩ := hs
    obtain ⟨-, v, hv, hg⟩ := hrdg hdv
    refine ⟨hrsp, hrdg, hquery, fun g w hga hgw => ?_⟩
    cases hga
    rw [hg] at hgw
    cases hgw
    exact decodePid_inRange hv
  next => exact inv_setAnswer hs nofun

theorem inv_transportSend {s : State} (hs : s.Inv) (g : CanFrame) : (s.transportSend g).Inv := by
  rw [transportSend_frame]
  exact inv_setAnswer hs nofun

theorem inv_openConnection {s : State} (hs : s.Inv) : s.openConnection.Inv := by
  rw [openConnection_frame]
  cases s.nextOpen.ok with
  | true => exact hs
  | false => exact inv_setAnswer hs nofun

/-- Outside `Decoded` and `Failed` the invariant asks nothing of `QOUT` but its range. -/
theorem inv_setQst {s : State} (hs : s.Inv) {q : QState} (hd : q ≠ .decoded) (hf : q ≠ .failed) :
    State.Inv { s with qst := q } := by
  obtain ⟨hrsp, hrdg, ⟨-, -, hout, hres⟩, hanswer⟩ := hs
  exact ⟨hrsp, hrdg, ⟨fun h => absurd h hd, fun h => absurd h hf, hout, hres⟩, hanswer⟩

/-- `Decoded` comes with a reading and `Failed` with an error (43_query_sequencer.md R154). -/
theorem inv_endQuery {s : State} (hs : s.Inv) {r : Result Reading} (hr : r.InRange) : (s.endQuery r).Inv := by
  obtain ⟨hrsp, hrdg, ⟨-, -, -, hres⟩, hanswer⟩ := hs
  cases r with
  | ok v => exact ⟨hrsp, hrdg, ⟨fun _ => ⟨v, rfl⟩, nofun, hr, hres⟩, hanswer⟩
  | err e => exact ⟨hrsp, hrdg, ⟨nofun, fun _ => ⟨e, rfl⟩, hr, hres⟩, hanswer⟩

theorem inv_clearResults {s : State} (hs : s.Inv) : State.Inv { s with res := noResults } := by
  obtain ⟨hrsp, hrdg, ⟨hdec, hfail, hout, -⟩, hanswer⟩ := hs
  exact ⟨hrsp, hrdg, ⟨hdec, hfail, hout, trivial, trivial, trivial⟩, hanswer⟩

theorem inv_storeResult {s : State} (hs : s.Inv) (k : Fin 3) :
    State.Inv { s with res := s.res.store k s.qout } := by
  obtain ⟨hrsp, hrdg, ⟨hdec, hfail, hout, h0, h1, h2⟩, hanswer⟩ := hs
  refine ⟨hrsp, hrdg, ⟨hdec, hfail, hout, ?_⟩, hanswer⟩
  match k with
  | 0 => exact ⟨hout, h1, h2⟩
  | 1 => exact ⟨h0, hout, h2⟩
  | 2 => exact ⟨h0, h1, hout⟩

theorem inv_popAct {s : State} (hs : s.Inv) : s.popAct.Inv := by
  rw [popAct_frame]; exact hs

/-- Reset meets the invariant whatever the state was: no valid bit is set and no reading is kept (10_state.md R40). -/
theorem inv_applyReset (s : State) : s.applyReset.Inv :=
  ⟨responseInv_of_invalid rfl, readingInv_of_invalid rfl, ⟨nofun, nofun, trivial, trivial, trivial, trivial⟩, nofun⟩

theorem Update.inv {s t : State} (h : Update s t) (hs : s.Inv) : t.Inv := by
  cases h with
  | ldPid p => exact inv_ldPid hs p
  | ldFrm f => exact inv_ldFrm hs f
  | runEnc => exact inv_runEnc hs
  | runDecf => exact inv_runDecf hs
  | runDecp => exact inv_runDecp hs
  | rdRdg => exact inv_rdRdg hs
  | setAnswer ha => exact inv_setAnswer hs ha
  | transportSend g => exact inv_transportSend hs g
  | transportReceive => exact inv_setAnswer hs nofun
  | openConnection => exact inv_openConnection hs
  | await => exact inv_setQst hs nofun nofun
  | endWithError e => exact inv_endQuery hs trivial
  | endWithReading ha hv => exact inv_endQuery hs (hs.answerInv _ _ ha hv)
  | leaveOutcome => exact inv_setQst hs nofun nofun
  | clearResults => exact inv_clearResults hs
  | storeResult k => exact inv_storeResult hs k
  | popAct => exact inv_popAct hs
  | applyReset => exact inv_applyReset s
  -- the rest writes nothing the invariant speaks of
  | writeCmd | keepFrame | arrive | closeConnection | push | setQpid | setSix | sampled => exact hs

/-- Settles O8: every step is a sequence of updates, and each update keeps the invariant. -/
theorem stepKeepsInv : Obligations.StepKeepsInv :=
  fun _ _ hs h => step_keeps Update.inv h hs

/-- Settles O7: the reset state is what reset makes of itself. -/
theorem invAtReset : Obligations.InvAtReset := inv_applyReset State.reset

/-! ### The parameters -/

theorem Update.params {s t : State} (h : Update s t) : t.params = s.params := by
  cases h with
  | runEnc => rw [runEnc_frame]
  | runDecf => rw [runDecf_frame]
  | runDecp => rw [runDecp_frame]
  | rdRdg => unfold State.rdRdg; split <;> rfl
  | transportSend g => rw [transportSend_frame]
  | openConnection => rw [openConnection_frame]
  | endWithError | endWithReading => exact endQuery_params ..
  | popAct => rw [popAct_frame]
  | _ => rfl

/-- Settles O6: no update writes the parameters. -/
theorem paramsFixed : Obligations.ParamsFixed :=
  fun s _ h => step_keeps (P := fun u => u.params = s.params) (fun hu hs => hu.params.trans hs) h rfl

end Sys2Proof.Machine
end

section
/-! SUPPORT. Proofs about the rows and the host transactions: what a row can leave in the state, and what a write of
`CMD` and the reads do (10_state.md R28 to R36). -/

namespace Sys2Proof.Machine

/-! ### What running a row is -/

/-- What a row can do: nothing, one command, one formula, or a frame built, recognised or interpreted. -/
theorem exec_cases {i : Instr} {s t : State} (h : exec i s = .next t) :
    (i = .nop ∧ t = s) ∨ t = s.runEnc ∨ t = s.runDecf ∨ t = s.runDecp ∨ (∃ k, t = s.runDecpAs k) ∨
      (∃ p, t = s.buildRequest p) ∨ (∃ f, t = s.recognise f) ∨ (∃ f, t = s.interpret f) := by
  cases i <;> cases h
  case nop => exact .inl ⟨rfl, rfl⟩
  case enc => exact .inr (.inl rfl)
  case decf => exact .inr (.inr (.inl rfl))
  case decp => exact .inr (.inr (.inr (.inl rfl)))
  case decpStd | decpFuel | decpRuntime => exact .inr (.inr (.inr (.inr (.inl ⟨_, rfl⟩))))
  case req | reqStd | reqFuel | reqRuntime => exact .inr (.inr (.inr (.inr (.inr (.inl ⟨_, rfl⟩)))))
  case rsp => exact .inr (.inr (.inr (.inr (.inr (.inr (.inl ⟨_, rfl⟩))))))
  case rspStd | rspFuel | rspRuntime => exact .inr (.inr (.inr (.inr (.inr (.inr (.inr ⟨_, rfl⟩))))))

/-- Settles O41: each form a row can take writes the block's registers only. -/
theorem rowsLeaveAround : Obligations.RowsLeaveAround := by
  intro i s t h
  rcases exec_cases h with ⟨-, rfl⟩ | rfl | rfl | rfl | ⟨k, rfl⟩ | ⟨p, rfl⟩ | ⟨f, rfl⟩ | ⟨f, rfl⟩
  · exact sameAround_setBlock t ..
  · exact sameAround_runEnc s
  · exact sameAround_runDecf s
  · exact sameAround_runDecp s
  · exact sameAround_runDecpAs s k
  · exact sameAround_buildRequest s p
  · exact sameAround_recognise s f
  · exact sameAround_interpret s f

/-- Settles O38: `DECP` puts the reading into `RDG`, which reads back as it. -/
theorem readingGroupFaithful : Obligations.ReadingGroupFaithful := by
  intro s v hrv hv
  refine ⟨s.putReading v, ?_, rfl, reading?_of_decodePid hv⟩
  simp [exec, execDecp, State.runDecp, State.finishDecp, hrv, hv]

/-! ### Downstream never outlives upstream -/

/-- `DV` is up only over a valid `RSP`, and `RV` only over valid operands (10_state.md R36). -/
def State.Ordered (s : State) : Prop := (s.dv = true → s.rv = true) ∧ (s.rv = true → s.pv = true ∧ s.fv = true)

theorem ordered_of_invalidated {s : State} (hrv : s.rv = false) (hdv : s.dv = false) : s.Ordered := by
  simp [State.Ordered, hrv, hdv]

theorem ordered_runEnc (s : State) : s.runEnc.Ordered :=
  ordered_of_invalidated (by rw [runEnc_frame]) (by rw [runEnc_frame])

theorem ordered_runDecf (s : State) : s.runDecf.Ordered := by
  rcases runDecf_cases s with ⟨hfv, hpv, f, r, -, -, h⟩ | ⟨-, -, f, k, -, -, h⟩ | ⟨-, -, -, h⟩ | ⟨-, h⟩ <;> rw [h]
  · exact ⟨nofun, fun _ => ⟨hpv, hfv⟩⟩
  all_goals exact ordered_of_invalidated rfl rfl

/-- A reading is put over a valid `RSP` only. -/
theorem ordered_putReading {s : State} (hs : s.Ordered) (hrv : s.rv = true) (v : Reading) : (s.putReading v).Ordered :=
  ⟨fun _ => hrv, hs.2⟩

theorem ordered_raise_decp {s : State} (hs : s.Ordered) (e : Error) : (s.raise .decp noFlags e).Ordered :=
  ⟨nofun, hs.2⟩

theorem ordered_runDecp {s : State} (hs : s.Ordered) : s.runDecp.Ordered := by
  rcases runDecp_cases s with ⟨hrv, v, -, h⟩ | ⟨-, e, -, h⟩ | ⟨-, h⟩ <;> rw [h]
  · exact ordered_putReading hs hrv v
  all_goals exact ordered_raise_decp hs _

theorem ordered_runDecpAs {s : State} (hs : s.Ordered) (k : PidKind) : (s.runDecpAs k).Ordered := by
  rcases runDecpAs_cases s k with ⟨hrv, v, -, h⟩ | ⟨-, -, h⟩ | ⟨-, h⟩ <;> rw [h]
  · exact ordered_putReading hs hrv v
  all_goals exact ordered_raise_decp hs _

theorem ordered_recognise (s : State) (f : Frame) : (s.recognise f).Ordered := ordered_runDecf _

theorem ordered_interpret (s : State) (f : Frame) : (s.interpret f).Ordered := by
  rcases interpret_cases s f with h | h <;> rw [h]
  · exact ordered_recognise s f
  · exact ordered_runDecp (ordered_recognise s f)

/-- Settles O42: `ENC` and `DECF` set the order up whatever came before, and `DECP` keeps it. -/
theorem downstreamInvalidated : Obligations.DownstreamInvalidated := by
  intro i s t h hdv hrv
  have hs : s.Ordered := ⟨hdv, hrv⟩
  rcases exec_cases h with ⟨-, rfl⟩ | rfl | rfl | rfl | ⟨k, rfl⟩ | ⟨p, rfl⟩ | ⟨f, rfl⟩ | ⟨f, rfl⟩
  · exact hs
  · exact ordered_runEnc s
  · exact ordered_runDecf s
  · exact ordered_runDecp hs
  · exact ordered_runDecpAs hs k
  · exact ordered_runEnc _
  · exact ordered_recognise s f
  · exact ordered_interpret s f

/-! ### What a command leaves in `STAT` -/

/-- What the fields of a `STAT` written by a command can be (10_state.md R32, 60_exceptions.md R182). -/
def WrittenStat (v : StatWord) : Prop :=
  opField v ≠ 0 ∧ errField v ≠ 1 ∧ errField v ≠ 6 ∧ errField v ≠ 7 ∧
    (errField v ≠ 2 → kindField v = 0) ∧ (opField v ≠ 2 → chkField v = 0)

/-- The errors a command can raise: no `RangeError`, and nothing of the transport (60_exceptions.md R182). -/
def Error.OfCommand (e : Error) : Prop := e.code ≠ 1 ∧ e.code ≠ 6 ∧ e.code ≠ 7

theorem ofCommand_protocolError (k : CheckKind) : (Error.protocolError k).OfCommand := by
  simp [Error.OfCommand, Error.code]

theorem ofCommand_operandInvalid : Error.operandInvalid.OfCommand := by simp [Error.OfCommand, Error.code]

theorem ofCommand_decodeError : Error.decodeError.OfCommand := by simp [Error.OfCommand, Error.code]

theorem ofCommand_unsupportedPid : Error.unsupportedPid.OfCommand := by simp [Error.OfCommand, Error.code]

theorem kindCode_eq_zero {e : Error} (h : e.code ≠ 2) : e.kindCode = 0 := by
  cases e with
  | protocolError k => exact absurd rfl h
  | _ => rfl

theorem bits_noFlags : noFlags.bits = 0 := by decide

theorem writtenStat_statErr {c : Command} {f : CheckFlags} {e : Error} (he : e.OfCommand)
    (hf : c = .decf ∨ f = noFlags) : WrittenStat (statErr c f e) := by
  obtain ⟨h1, h6, h7⟩ := he
  rw [WrittenStat, statErr, opField_statWord, errField_statWord, kindField_statWord, chkField_statWord]
  refine ⟨by cases c <;> decide, h1, h6, h7, kindCode_eq_zero, fun hop => ?_⟩
  rcases hf with rfl | rfl
  · exact absurd rfl hop
  · exact bits_noFlags

theorem writtenStat_statOk {c : Command} {f : CheckFlags} (hf : c = .decf ∨ f = noFlags) : WrittenStat (statOk c f) := by
  rw [WrittenStat, statOk, opField_statWord, errField_statWord, kindField_statWord, chkField_statWord]
  refine ⟨by cases c <;> decide, by decide, by decide, by decide, fun _ => rfl, fun hop => ?_⟩
  rcases hf with rfl | rfl
  · exact absurd rfl hop
  · exact bits_noFlags

theorem writtenStat_runEnc (s : State) : WrittenStat s.runEnc.stat := by
  rcases runEnc_cases s with ⟨-, f, -, h⟩ | ⟨-, h⟩ <;> rw [h]
  · exact writtenStat_statOk (.inr rfl)
  · exact writtenStat_statErr ofCommand_operandInvalid (.inr rfl)

theorem writtenStat_runDecf (s : State) : WrittenStat s.runDecf.stat := by
  rcases runDecf_cases s with ⟨-, -, f, r, -, -, h⟩ | ⟨-, -, f, k, -, -, h⟩ | ⟨-, -, -, h⟩ | ⟨-, h⟩ <;> rw [h]
  · exact writtenStat_statOk (.inl rfl)
  · exact writtenStat_statErr (ofCommand_protocolError k) (.inl rfl)
  · exact writtenStat_statErr (ofCommand_protocolError _) (.inl rfl)
  · exact writtenStat_statErr ofCommand_operandInvalid (.inl rfl)

theorem writtenStat_runDecp (s : State) : WrittenStat s.runDecp.stat := by
  rcases runDecp_cases s with ⟨-, v, -, h⟩ | ⟨-, e, he, h⟩ | ⟨-, h⟩ <;> rw [h]
  · exact writtenStat_statOk (.inr rfl)
  · rcases decodePid_err he with rfl | rfl
    · exact writtenStat_statErr ofCommand_unsupportedPid (.inr rfl)
    · exact writtenStat_statErr ofCommand_decodeError (.inr rfl)
  · exact writtenStat_statErr ofCommand_operandInvalid (.inr rfl)

theorem writtenStat_runDecpAs (s : State) (k : PidKind) : WrittenStat (s.runDecpAs k).stat := by
  rcases runDecpAs_cases s k with ⟨-, v, -, h⟩ | ⟨-, -, h⟩ | ⟨-, h⟩ <;> rw [h]
  · exact writtenStat_statOk (.inr rfl)
  · exact writtenStat_statErr ofCommand_decodeError (.inr rfl)
  · exact writtenStat_statErr ofCommand_operandInvalid (.inr rfl)

theorem writtenStat_interpret (s : State) (f : Frame) : WrittenStat (s.interpret f).stat := by
  rcases interpret_cases s f with h | h <;> rw [h]
  · exact writtenStat_runDecf _
  · exact writtenStat_runDecp _

/-- Settles O40: every row but `NOP` ends in a command, and each command writes such a `STAT`. -/
theorem statFields : Obligations.StatFields := by
  intro i s t hi h
  rcases exec_cases h with ⟨hnop, -⟩ | rfl | rfl | rfl | ⟨k, rfl⟩ | ⟨p, rfl⟩ | ⟨f, rfl⟩ | ⟨f, rfl⟩
  · exact absurd hnop hi
  · exact writtenStat_runEnc s
  · exact writtenStat_runDecf s
  · exact writtenStat_runDecp s
  · exact writtenStat_runDecpAs s k
  · exact writtenStat_runEnc _
  · exact writtenStat_runDecf _
  · exact writtenStat_interpret s f

/-! ### Reset, commands and host transactions -/

/-- Settles O1: the values of 10_state.md R40 are those of the reset state. -/
theorem resetValues : Obligations.ResetValues := ⟨rfl, rfl, rfl, rfl, rfl, rfl, rfl, rfl, rfl, rfl⟩

/-- `DECP` with a valid `RSP` is fetched as the row its pid byte selects (30_encoding.md R81). -/
theorem fetch_of_selector {s : State} {i : Instr} (hrv : s.rv = true)
    (h : decode s.params (.sel s.rsp.pid) = .ok i) : s.fetch 3 = i := by
  have hsel : decodeSel s.params s.rsp.pid = .ok i := h
  simp [State.fetch, decodeCmd, hrv, hsel]

theorem step_of_cmd {s : State} {c : CmdCode} (hr : s.resetAsserted = false) (ha : s.nextAct = some (.cmd c)) :
    step s = actCmd c s.sampled.popAct :=
  step_of_act hr ha (mayIssue_of_not_micro s rfl)

/-- Settles O4: moving past the act leaves `RSP` and the parameters, so the row fetched is the one they select. -/
theorem stepRunsCommand : Obligations.StepRunsCommand := by
  intro s c i hr ha
  rw [step_of_cmd hr ha]
  constructor
  · intro hi
    cases hi
    exact actCmd_eq c _
  · rintro rfl hrv hi
    have hfetch : s.sampled.popAct.fetch 3 = i := by
      rw [popAct_frame]
      exact fetch_of_selector hrv hi
    rw [actCmd, hfetch]

/-- Settles O47: the two loads, field by field. -/
theorem hostLoads : Obligations.HostLoads := fun _ _ _ => ⟨rfl, rfl⟩

theorem rdFrm_of_valid {s : State} (h : s.fv = true) :
    s.rdFrm = { s with answer := .frame s.frm, lastFrame := some s.frm } := by simp [State.rdFrm, h]

theorem rdFrm_of_invalid {s : State} (h : s.fv = false) : s.rdFrm = { s with answer := .error .operandInvalid } := by
  simp [State.rdFrm, h]

theorem rdRsp_of_valid {s : State} (h : s.rv = true) : s.rdRsp = { s with answer := .response s.rsp.response } := by
  simp [State.rdRsp, h]

theorem rdRsp_of_invalid {s : State} (h : s.rv = false) : s.rdRsp = { s with answer := .error .operandInvalid } := by
  simp [State.rdRsp, h]

theorem rdRdg_of_valid {s : State} (h : s.dv = true) : s.rdRdg = { s with answer := .reading s.rdg } := by
  simp [State.rdRdg, h]

theorem rdRdg_of_invalid {s : State} (h : s.dv = false) : s.rdRdg = { s with answer := .error .operandInvalid } := by
  simp [State.rdRdg, h]

/-- Settles O48: each read at both values of its valid bit, and the reads and writes of `STAT`. -/
theorem hostReads : Obligations.HostReads := fun _ _ =>
  ⟨fun h => congrArg _ (rdFrm_of_valid h), fun h => congrArg _ (rdFrm_of_invalid h),
    fun h => congrArg _ (rdRsp_of_valid h), fun h => congrArg _ (rdRsp_of_invalid h),
    fun h => congrArg _ (rdRdg_of_valid h), fun h => congrArg _ (rdRdg_of_invalid h), rfl, rfl⟩

end Sys2Proof.Machine
end

section
/-! SUPPORT. Proofs about memory: a command issued twice, and the bus receive queue (20_memory.md R55). -/

namespace Sys2Proof.Machine

/-! ### A write done twice is the write done once -/

/-- The payload bytes are written again, and those beyond them are left alone both times. -/
theorem Payload.write_write (p : Payload) (l : List Byte) : (p.write l).write l = p.write l := by
  have getD_twice : ∀ (o : Option Byte) (b : Byte), o.getD (o.getD b) = o.getD b := by
    intro o b
    cases o <;> rfl
  simp [Payload.write, getD_twice]

theorem RspGroup.write_write (g : RspGroup) (r : ObdResponse) : (g.write r).write r = g.write r := by
  simp [RspGroup.write, Payload.write_write]

theorem putResponse_putResponse (s : State) (r : ObdResponse) :
    (s.putResponse r).putResponse r = s.putResponse r := by
  simp [State.putResponse, RspGroup.write_write]

/-! ### What a command does, from its operands -/

/-- `ENC` with a valid `PIDR` writes the request frame, whatever the frame group held (40_frame_encode.md R101). -/
theorem runEnc_of_valid {s : State} (hpv : s.pv = true) :
    s.runEnc =
      { s with frm := requestFrame s.params s.pidr, fv := true, rv := false, dv := false,
               stat := statOk .enc noFlags } := by
  obtain ⟨f, hf, hframe⟩ := encodeRequest_byte s.params s.pidr
  simp [State.runEnc, State.putRequest, hpv, hf, hframe]

theorem runEnc_of_invalid {s : State} (hpv : s.pv = false) : s.runEnc = s.encNoOperand := by
  simp [State.runEnc, hpv]

/-- `DECF` on a group that is no `CanFrame` (41_frame_decode.md R119). -/
theorem runDecf_of_oversize {s : State} (hfv : s.fv = true) (hpv : s.pv = true) (hc : toCanFrame? s.frm = none) :
    s.runDecf = s.raise .decf (oversizeFlags s.frm.id)
      (.protocolError (if idInRange s.frm.id then .malformedLength else .wrongArbitrationId)) := by
  simp [State.runDecf, hfv, hpv, hc]

theorem runDecf_of_response {s : State} {f : CanFrame} {r : ObdResponse} (hfv : s.fv = true) (hpv : s.pv = true)
    (hc : toCanFrame? s.frm = some f) (hd : decodeResponse f s.pidr = .ok r) : s.runDecf = s.putResponse r := by
  simp [State.runDecf, hfv, hpv, hc, hd]

theorem runDecf_of_failure {s : State} {f : CanFrame} {k : CheckKind} (hfv : s.fv = true) (hpv : s.pv = true)
    (hc : toCanFrame? s.frm = some f) (hk : firstFailure (checks f s.pidr) = some k) :
    s.runDecf = s.raise .decf (checks f s.pidr) (.protocolError k) := by
  have hd : decodeResponse f s.pidr = .err (.protocolError k) := (decodeResponse_err_iff _ _ _).2 ⟨k, hk, rfl⟩
  simp [State.runDecf, hfv, hpv, hc, hd]

theorem runDecf_of_invalid {s : State} (h : s.fv = false ∨ s.pv = false) :
    s.runDecf = s.raise .decf noFlags .operandInvalid := by
  rcases h with h | h <;> simp [State.runDecf, h]

theorem runDecp_of_reading {s : State} {v : Reading} (hrv : s.rv = true)
    (hv : decodePid s.params s.rsp.pid s.rsp.payload = .ok v) : s.runDecp = s.putReading v := by
  simp [State.runDecp, State.finishDecp, hrv, hv]

theorem runDecp_of_error {s : State} {e : Error} (hrv : s.rv = true)
    (he : decodePid s.params s.rsp.pid s.rsp.payload = .err e) : s.runDecp = s.raise .decp noFlags e := by
  simp [State.runDecp, State.finishDecp, hrv, he]

theorem runDecp_of_invalid {s : State} (hrv : s.rv = false) : s.runDecp = s.raise .decp noFlags .operandInvalid := by
  simp [State.runDecp, hrv]

/-! ### Commands issued twice

A command leaves its own operands as they were (10_state.md R36), so the second time it takes the same case and writes
the same values over themselves. -/

theorem runEnc_runEnc (s : State) : s.runEnc.runEnc = s.runEnc := by
  cases hpv : s.pv with
  | true =>
    rw [runEnc_of_valid hpv]
    exact runEnc_of_valid hpv
  | false =>
    rw [runEnc_of_invalid hpv]
    exact runEnc_of_invalid hpv

theorem runDecf_runDecf (s : State) : s.runDecf.runDecf = s.runDecf := by
  rcases runDecf_cases s with ⟨hfv, hpv, f, r, hc, hd, h⟩ | ⟨hfv, hpv, f, k, hc, hk, h⟩ | ⟨hfv, hpv, hc, h⟩ | ⟨hv, h⟩ <;>
    rw [h]
  · rw [runDecf_of_response (s := s.putResponse r) hfv hpv hc hd]
    exact putResponse_putResponse s r
  · exact runDecf_of_failure (s := s.raise .decf _ _) hfv hpv hc hk
  · exact runDecf_of_oversize (s := s.raise .decf _ _) hfv hpv hc
  · exact runDecf_of_invalid (s := s.raise .decf _ _) hv

theorem runDecp_runDecp (s : State) : s.runDecp.runDecp = s.runDecp := by
  rcases runDecp_cases s with ⟨hrv, v, hv, h⟩ | ⟨hrv, e, he, h⟩ | ⟨hrv, h⟩ <;> rw [h]
  · exact runDecp_of_reading (s := s.putReading v) hrv hv
  · exact runDecp_of_error (s := s.raise .decp _ _) hrv he
  · exact runDecp_of_invalid (s := s.raise .decp _ _) hrv

/-- Settles O39: `NOP` does nothing, and each other command meets its own operands again. -/
theorem commandsIdempotent : Obligations.CommandsIdempotent := by
  intro i s t hi h
  simp only [List.mem_cons, List.not_mem_nil, or_false] at hi
  rcases hi with rfl | rfl | rfl | rfl <;> cases h
  · rfl
  · exact congrArg Host.Outcome.next (runEnc_runEnc s)
  · exact congrArg Host.Outcome.next (runDecf_runDecf s)
  · exact congrArg Host.Outcome.next (runDecp_runDecp s)

/-! ### The bus receive queue -/

/-- With the connection open, `RECV` is the transport's `receive` (30_encoding.md R82). -/
theorem runAct_recv_of_opened {s : State} (h : s.conn = .opened) : runAct .recv s = .next s.transportReceive := by
  simp [runAct, actRecv, h]

theorem transportReceive_of_nil {s : State} (h : s.rxq = []) :
    s.transportReceive = { s with answer := .received .timeout } := by
  simp [State.transportReceive, State.nextRx, h]

theorem transportReceive_of_frame {s : State} {g : CanFrame} {l : List RxEvent} (h : s.rxq = .frame g :: l) :
    s.transportReceive = { s with rxq := l, answer := .received (.frame g) } := by
  simp [State.transportReceive, State.nextRx, h]

theorem transportReceive_of_failure {s : State} {l : List RxEvent} (h : s.rxq = .failure :: l) :
    s.transportReceive = { s with rxq := l, answer := .received .failure } := by
  simp [State.transportReceive, State.nextRx, h]

/-- Settles O49: what `receive` answers and leaves, by the head of `RXQ`. -/
theorem receiveAnswers : Obligations.ReceiveAnswers := by
  intro s hopen
  rw [runAct_recv_of_opened hopen]
  exact ⟨fun h => congrArg _ (transportReceive_of_nil h), fun _ _ h => congrArg _ (transportReceive_of_frame h),
    fun _ h => congrArg _ (transportReceive_of_failure h)⟩

end Sys2Proof.Machine
end

section
/-! SUPPORT. Proofs about the encoding: the words of the rows, what decodes to a row, and what is no row
(30_encoding.md R70 to R84). -/

namespace Sys2Proof

/-! ### The words of the rows of a kind -/

theorem encode_selectorRow (p : Params) (k : PidKind) : encode p (selectorRow k) = .sel (p.pidOf k) := by
  cases k <;> rfl

theorem encode_requestRow (p : Params) (k : PidKind) :
    encode p (requestRow k) = .frame (requestFrame p (p.pidOf k)).pack := by
  cases k <;> rfl

theorem encode_responseRow (p : Params) (f : RspFields) (k : PidKind) :
    encode p (responseRow f k) = .frame (responseFrame (p.pidOf k) f).pack := by
  cases k <;> rfl

/-! ### From the instruction to its word and back -/

theorem decodeSel_of_kind {p : Params} {b : Byte} {k : PidKind} (h : p.kindOf b = some k) :
    decodeSel p b = .ok (selectorRow k) := by
  simp [decodeSel, h]

/-- A request frame meets every fixed field, so its row depends on the pid byte only (30_encoding.md R72, R75). -/
theorem decodeReq_requestFrame_of_kind {p : Params} {pid : Byte} {k : PidKind} (h : p.kindOf pid = some k) :
    decodeReq p (requestFrame p pid) = .ok (requestRow k) := by
  simp [decodeReq, requestFrame, h]

theorem decodeReq_requestFrame_of_none {p : Params} {pid : Byte} (h : p.kindOf pid = none) :
    decodeReq p (requestFrame p pid) = .ok (.req pid) := by
  simp [decodeReq, requestFrame, h]

@[simp] theorem responseFrame_d1 (pid : Byte) (f : RspFields) : (responseFrame pid f).data.d1 = Config.sidRsp := rfl
@[simp] theorem responseFrame_d2 (pid : Byte) (f : RspFields) : (responseFrame pid f).data.d2 = pid := rfl

/-- The row of a kind owns the frames long enough for it (30_encoding.md R76). -/
theorem decodeRsp_responseFrame_of_kind {p : Params} {pid : Byte} {f : RspFields} {k : PidKind}
    (h : p.kindOf pid = some k) (hf : f.fitsKind k = true) :
    decodeRsp p (responseFrame pid f) = .ok (responseRow f k) := by
  simp [decodeRsp, rspFields_responseFrame, h, hf]

/-- The general row owns the frames of the other pids, and those too short for the kind of their pid (30_encoding.md
R73, R76). -/
theorem decodeRsp_responseFrame_of_wellFormed {p : Params} {pid : Byte} {f : RspFields}
    (h : WellFormed p (.rsp pid f) = true) : decodeRsp p (responseFrame pid f) = .ok (.rsp pid f) := by
  simp only [WellFormed, Bool.and_eq_true] at h
  obtain ⟨hfits, howner⟩ := h
  cases hk : p.kindOf pid with
  | none => simp [decodeRsp, rspFields_responseFrame, hk]
  | some k =>
    have hshort : f.fitsKind k = false := by simpa [hk] using howner
    simp [decodeRsp, rspFields_responseFrame, hk, hfits, hshort]

theorem decode_pack_requestFrame (p : Params) (pid : Byte) :
    decode p (.frame (requestFrame p pid).pack) = decodeReq p (requestFrame p pid) := by
  have hid : (requestFrame p pid).id = Config.reqId := rfl
  simp [decode, decodeFrame, Frame.unpack_pack, hid]

theorem decode_pack_responseFrame (p : Params) (pid : Byte) (f : RspFields) :
    decode p (.frame (responseFrame pid f).pack) = decodeRsp p (responseFrame pid f) := by
  simp [decode, decodeFrame, Frame.unpack_pack, responseFrame_id_ne_reqId, idInRange_responseFrame]

theorem decode_encode_selectorRow {p : Params} (hp : p.valid = true) (k : PidKind) :
    decode p (encode p (selectorRow k)) = .ok (selectorRow k) := by
  rw [encode_selectorRow]
  exact decodeSel_of_kind (kindOf_pidOf hp k)

theorem decode_encode_requestRow {p : Params} (hp : p.valid = true) (k : PidKind) :
    decode p (encode p (requestRow k)) = .ok (requestRow k) := by
  rw [encode_requestRow, decode_pack_requestFrame]
  exact decodeReq_requestFrame_of_kind (kindOf_pidOf hp k)

theorem decode_encode_responseRow {p : Params} (hp : p.valid = true) {f : RspFields} {k : PidKind}
    (hf : f.fitsKind k = true) : decode p (encode p (responseRow f k)) = .ok (responseRow f k) := by
  rw [encode_responseRow, decode_pack_responseFrame]
  exact decodeRsp_responseFrame_of_kind (kindOf_pidOf hp k) hf

/-- Settles O10: the commands by their codes, the rows of a kind by its pid, the two general rows by the pids they are
left with. -/
theorem encodeThenDecode : Obligations.EncodeThenDecode := by
  intro p i hp hi
  cases i with
  | nop | enc | decf | decp => rfl
  | decpStd => exact decode_encode_selectorRow hp .standard
  | decpFuel => exact decode_encode_selectorRow hp .fuel
  | decpRuntime => exact decode_encode_selectorRow hp .runtime
  | req pid =>
    have hnone : p.kindOf pid = none := Option.isNone_iff_eq_none.1 hi
    exact (decode_pack_requestFrame p pid).trans (decodeReq_requestFrame_of_none hnone)
  | reqStd => exact decode_encode_requestRow hp .standard
  | reqFuel => exact decode_encode_requestRow hp .fuel
  | reqRuntime => exact decode_encode_requestRow hp .runtime
  | rsp pid f => exact (decode_pack_responseFrame p pid f).trans (decodeRsp_responseFrame_of_wellFormed hi)
  | rspStd f => exact decode_encode_responseRow (k := .standard) hp hi
  | rspFuel f => exact decode_encode_responseRow (k := .fuel) hp hi
  | rspRuntime f => exact decode_encode_responseRow (k := .runtime) hp hi

/-! ### From the word to its instruction and back -/

theorem encode_decodeCmd (p : Params) (c : CmdCode) : encode p (decodeCmd c) = .cmd c := by
  have hc : ∀ c : CmdCode, c = 0 ∨ c = 1 ∨ c = 2 ∨ c = 3 := by decide
  rcases hc c with rfl | rfl | rfl | rfl <;> rfl

theorem encode_of_decodeSel {p : Params} {b : Byte} {i : Instr} (h : decodeSel p b = .ok i) :
    encode p i = .sel b := by
  unfold decodeSel at h
  split at h
  next k hk =>
    cases h
    rw [encode_selectorRow, pidOf_of_kindOf hk]
  next => cases h

/-- A frame that decodes to a request row is the request frame of its pid byte (30_encoding.md R72). -/
theorem requestFrame_of_decodeReq {p : Params} {f : Frame} {i : Instr} (hid : f.id = Config.reqId)
    (h : decodeReq p f = .ok i) : requestFrame p f.data.d2 = f := by
  obtain ⟨id, dlc, d0, d1, d2, d3, d4, d5, d6, d7⟩ := f
  unfold decodeReq at h
  split at h
  next hshape =>
    split at h
    next hpad => simp_all [requestFrame]
    next => cases h
  next => cases h

theorem encode_of_decodeReq {p : Params} {f : Frame} {i : Instr} (hid : f.id = Config.reqId)
    (h : decodeReq p f = .ok i) : encode p i = .frame f.pack := by
  have hf := requestFrame_of_decodeReq hid h
  rw [← hf]
  cases hk : p.kindOf f.data.d2 with
  | some k =>
    rw [← hf, decodeReq_requestFrame_of_kind hk] at h
    cases h
    rw [encode_requestRow, pidOf_of_kindOf hk]
  | none =>
    rw [← hf, decodeReq_requestFrame_of_none hk] at h
    cases h
    rfl

/-- A frame with a response id and the response service byte is the response frame of its fields (30_encoding.md R73,
R74). -/
theorem responseFrame_rspFields {f : Frame} (hid : idInRange f.id = true) (hsid : f.data.d1 = Config.sidRsp) :
    responseFrame f.data.d2 f.rspFields = f := by
  obtain ⟨id, dlc, d0, d1, d2, d3, d4, d5, d6, d7⟩ := f
  simp_all [responseFrame, Frame.rspFields, id_of_inRange]

theorem encode_of_decodeRsp {p : Params} {f : Frame} {i : Instr} (hid : idInRange f.id = true)
    (h : decodeRsp p f = .ok i) : encode p i = .frame f.pack := by
  unfold decodeRsp at h
  split at h
  next hsid =>
    have hframe := responseFrame_rspFields hid hsid
    have hgeneral : encode p (.rsp f.data.d2 f.rspFields) = .frame f.pack := by rw [encode, hframe]
    split at h
    next =>
      cases h
      exact hgeneral
    next k hk =>
      split at h <;> cases h
      · exact hgeneral
      · rw [encode_responseRow, pidOf_of_kindOf hk, hframe]
  next => cases h

theorem encode_of_decodeFrame {p : Params} {w : FrameWord} {i : Instr} (h : decodeFrame p w = .ok i) :
    encode p i = .frame w := by
  rw [← Frame.pack_unpack w]
  simp only [decodeFrame] at h
  split at h
  next hid => exact encode_of_decodeReq hid h
  next =>
    split at h
    next hid => exact encode_of_decodeRsp hid h
    next => cases h

/-- Settles O11: by the three kinds of words. -/
theorem decodeThenEncode : Obligations.DecodeThenEncode := by
  intro p w i h
  cases w with
  | cmd c =>
    cases h
    exact encode_decodeCmd p c
  | sel b => exact encode_of_decodeSel h
  | frame w => exact encode_of_decodeFrame h

/-! ### Match and mask -/

/-- The fixed fields of a request frame (30_encoding.md R72). -/
theorem requestFrame_and_mask (p : Params) (pid : Byte) :
    (requestFrame p pid).pack &&& 0x7FFFFFFF000000000000#79 = 0x7DF80201000000000000#79 := by
  have hmask : 0x7FFFFFFF000000000000#79 = Frame.pack ⟨0x7FF, 0xF, ⟨0xFF, 0xFF, 0, 0, 0, 0, 0, 0⟩⟩ := by decide
  have hmatch : 0x7DF80201000000000000#79 = Frame.pack ⟨0x7DF, 8, ⟨2, 1, 0, 0, 0, 0, 0, 0⟩⟩ := by decide
  rw [hmask, hmatch, Frame.pack_and]
  simp [requestFrame, Config.reqId, Config.reqLen, Config.sidReq]

/-- The fixed fields of a response frame: the top eight id bits and the service byte (30_encoding.md R73). -/
theorem responseFrame_and_mask (pid : Byte) (f : RspFields) :
    (responseFrame pid f).pack &&& 0x7F8000FF000000000000#79 = 0x7E800041000000000000#79 := by
  have hmask : 0x7F8000FF000000000000#79 = Frame.pack ⟨0x7F8, 0, ⟨0, 0xFF, 0, 0, 0, 0, 0, 0⟩⟩ := by decide
  have hmatch : 0x7E800041000000000000#79 = Frame.pack ⟨0x7E8, 0, ⟨0, 0x41, 0, 0, 0, 0, 0, 0⟩⟩ := by decide
  have hid : ∀ e : BitVec 3, ((0b11111101#8) ++ e) &&& 0x7F8#11 = 0x7E8#11 := by decide
  rw [hmask, hmatch, Frame.pack_and]
  simp [responseFrame, Config.sidRsp, Config.sidReq, Config.sidOffset, hid]

/-- Settles O13: the masks field by field, and the rows of the three pids at their default pids. -/
theorem rowPatterns : Obligations.RowPatterns := fun pad pid f =>
  ⟨requestFrame_and_mask (Config.defaultsAt pad) pid, responseFrame_and_mask pid f, rfl, rfl, rfl, rfl, rfl, rfl⟩

/-! ### Words that are no row -/

theorem idInRange_eq_idOkAt (id : ArbId) : idInRange id = Machine.idOkAt id := by
  rw [Bool.eq_iff_iff, idInRange_iff]
  simp [Machine.idOkAt]

theorem decode_of_unrelatedId {p : Params} {w : FrameWord} (hreq : (Frame.unpack w).id ≠ Config.reqId)
    (hrsp : idInRange (Frame.unpack w).id = false) : decode p (.frame w) = .error .unrelatedId := by
  simp [decode, decodeFrame, hreq, hrsp]

/-- The request id lies outside the response range (30_encoding.md R71). -/
theorem ne_reqId_of_inRange {id : ArbId} (h : idInRange id = true) : id ≠ Config.reqId := by
  rintro rfl
  revert h
  decide

theorem decode_of_wrongService {p : Params} {w : FrameWord} (hid : idInRange (Frame.unpack w).id = true)
    (hsid : (Frame.unpack w).data.d1 ≠ Config.sidRsp) : decode p (.frame w) = .error .wrongService := by
  simp [decode, decodeFrame, decodeRsp, ne_reqId_of_inRange hid, hid, hsid]

theorem decode_of_unsupportedPid {p : Params} {b : Byte} (h : p.kindOf b = none) :
    decode p (.sel b) = .error .unsupportedPid := by
  simp [decode, decodeSel, h]

/-- Settles O14: one rejection for each of the id, the service byte and the selector byte. -/
theorem decodeRejects : Obligations.DecodeRejects := by
  intro p w b
  rw [← idInRange_eq_idOkAt]
  exact ⟨decode_of_unrelatedId, decode_of_wrongService,
    fun hstd hfuel hrun => decode_of_unsupportedPid ((kindOf_eq_none_iff p b).2 ⟨hstd, hfuel, hrun⟩)⟩

/-- Settles O12: seven closed words, each evaluated. -/
theorem decodeWords : Obligations.DecodeWords := by
  unfold Obligations.DecodeWords
  decide

end Sys2Proof
end

section
/-! SUPPORT. Proofs about the frame rows: what running a request row builds and a response row recognises, and the frame
of `decode(p, s)` (30_encoding.md R72 to R76, R83). -/

namespace Sys2Proof.Machine

/-! ### Frames that are accepted -/

/-- A group whose `DLC` is at most 8 is a `CanFrame` (41_frame_decode.md R116). -/
theorem toCanFrame?_of_dlc {f : Frame} (h : f.dlc.toNat < 9) :
    toCanFrame? f = some ⟨f.id, ⟨f.dlc.toNat, h⟩, f.data⟩ := dif_pos h

/-- A well-formed length byte makes the service and the pid byte valid ones, so only their values are left to check
(41_frame_decode.md R110, R112). -/
theorem decodeResponse_of_checks {f : CanFrame} {e : Byte} (hid : idOkAt f.arbitrationId = true)
    (hlen : lenOkAt f.dlc.val f.data = true) (hsid : f.data.d1 = 0x41) (hpid : f.data.d2 = e) :
    decodeResponse f e =
      .ok ⟨0x41, e, [f.data.d3, f.data.d4, f.data.d5, f.data.d6].take (f.data.d0.toNat - 2)⟩ := by
  obtain ⟨hlow, -, hdlc⟩ := (lenOkAt_iff _ _).1 hlen
  have hdlc2 : 2 ≤ f.dlc.val := by omega
  have hdlc3 : 3 ≤ f.dlc.val := by omega
  rw [decodeResponse_ok_iff, checks_eq, (payload_of_lenOk hlen).2, hsid, hpid]
  simp [allFlags, hid, hlen, svcOkAt, pidOkAt, hsid, hpid, hdlc2, hdlc3]

/-! ### Request rows -/

/-- `LDPID p ; ENC` leaves the request frame of `p` (30_encoding.md R72, R83). -/
theorem buildRequest_eq (s : State) (p : Byte) :
    s.buildRequest p =
      { s with pidr := p, pv := true, frm := requestFrame s.params p, fv := true, rv := false, dv := false, cmd := 1,
               stat := 0x200 } := by
  unfold State.buildRequest
  rw [runEnc_of_valid rfl]
  rfl

/-- Settles O43: each request row builds the frame of its pid. -/
theorem requestRows : Obligations.RequestRows := by
  intro s i p h
  rcases h with rfl | ⟨rfl, rfl⟩ | ⟨rfl, rfl⟩ | ⟨rfl, rfl⟩
  all_goals exact congrArg Host.Outcome.next (buildRequest_eq s _)

/-! ### Response rows -/

/-- The response a response row stands for (30_encoding.md R73, R74). -/
def responseOf (pid : Byte) (f : RspFields) : ObdResponse :=
  ⟨0x41, pid, [f.d3, f.d4, f.d5, f.d6].take (f.n.toNat - 2)⟩

/-- The constraints of a row of a kind are those of `RSP` and more (30_encoding.md R76). -/
theorem fits_of_fitsKind {f : RspFields} {k : PidKind} (h : f.fitsKind k = true) : f.fits 2 = true := by
  obtain ⟨hdlc, hlow, hhigh, hlen⟩ := (fits_iff f (2 + k.need)).1 h
  exact (fits_iff f 2).2 ⟨hdlc, by omega, hhigh, hlen⟩

/-- The constraints of a row of a kind give the payload the bytes its kind needs (30_encoding.md R76). -/
theorem need_le_of_fitsKind {f : RspFields} {k : PidKind} (h : f.fitsKind k = true) : k.need ≤ f.n.toNat - 2 := by
  obtain ⟨-, hlow, -, -⟩ := (fits_iff f (2 + k.need)).1 h
  omega

theorem need_pos (k : PidKind) : 0 < k.need := by cases k <;> decide

theorem responseOf_payload_length {pid : Byte} {f : RspFields} (hf : f.fits 2 = true) :
    (responseOf pid f).payload.length = f.n.toNat - 2 ∧ f.n.toNat - 2 ≤ 4 := by
  obtain ⟨-, -, hhigh, -⟩ := (fits_iff f 2).1 hf
  have h4 : f.n.toNat - 2 ≤ 4 := by omega
  exact ⟨by simp [responseOf, h4], h4⟩

/-- The frame of a response row passes the four checks against its own pid (41_frame_decode.md R112). -/
theorem decodeResponse_responseFrame {pid : Byte} {f : RspFields} (hf : f.fits 2 = true) :
    ∃ g, toCanFrame? (responseFrame pid f) = some g ∧ decodeResponse g pid = .ok (responseOf pid f) := by
  obtain ⟨hdlc, hlow, hhigh, hlen⟩ := (fits_iff f 2).1 hf
  have h9 : (responseFrame pid f).dlc.toNat < 9 := Nat.lt_succ_of_le hdlc
  have hid : idOkAt (responseFrame pid f).id = true := by
    rw [← idInRange_eq_idOkAt]
    exact idInRange_responseFrame pid f
  have hlenOk : lenOkAt (responseFrame pid f).dlc.toNat (responseFrame pid f).data = true :=
    (lenOkAt_iff _ _).2 ⟨hlow, hhigh, hlen⟩
  exact ⟨_, toCanFrame?_of_dlc h9, decodeResponse_of_checks hid hlenOk rfl rfl⟩

/-- What recognising the frame of a response row leaves, with its pid the expected one (30_encoding.md R73,
41_frame_decode.md R116). -/
theorem recognise_responseFrame {s : State} {pid : Byte} {f : RspFields} (hpv : s.pv = true) (hpid : s.pidr = pid)
    (hf : f.fits 2 = true) :
    s.recognise (responseFrame pid f) =
      { s with frm := responseFrame pid f, fv := true, rsp := s.rsp.write (responseOf pid f), rv := true, dv := false,
               cmd := 2, stat := 0x5E0 } := by
  subst hpid
  obtain ⟨g, hg, hd⟩ := decodeResponse_responseFrame (pid := s.pidr) hf
  unfold State.recognise
  rw [runDecf_of_response (s := (s.ldFrm (responseFrame s.pidr f)).writeCmd 2) rfl hpv hg hd]
  rfl

/-- The response group holds the response that was written (10_state.md R30). -/
theorem write_responseOf (old : RspGroup) {pid : Byte} {f : RspFields} (hf : f.fits 2 = true) :
    (old.write (responseOf pid f)).len.toNat = f.n.toNat - 2 ∧
      (old.write (responseOf pid f)).payload = [f.d3, f.d4, f.d5, f.d6].take (f.n.toNat - 2) := by
  obtain ⟨hlen, h4⟩ := responseOf_payload_length (pid := pid) hf
  refine ⟨?_, write_payload (hlen.trans_le h4)⟩
  have h8 : (f.n.toNat - 2) % 2 ^ 3 = f.n.toNat - 2 := Nat.mod_eq_of_lt (by omega)
  rw [RspGroup.write, hlen, BitVec.toNat_ofNat, h8]

/-- Settles O44: the frame passes `DECF`, and `RSP` holds its response. -/
theorem responseRecognised : Obligations.ResponseRecognised := by
  intro s pid f hpv hpid hf
  obtain ⟨hlen, hpayload⟩ := write_responseOf s.rsp (pid := pid) hf
  exact ⟨s.rsp.write (responseOf pid f), rfl, rfl, hlen, hpayload,
    congrArg Host.Outcome.next (recognise_responseFrame hpv hpid hf)⟩

/-! ### Response rows that decode to a reading -/

theorem knownCode_iff (p : Params) (c : Byte) : knownCode p c = true ↔ ∃ e ∈ p.stdTable, e.code = c := by
  simp [knownCode]

/-- The reading of a kind from the first two payload bytes, of which all but the runtime use one (42_pid_decode.md R134
to R136). -/
def readingOf (p : Params) (a b : Byte) : PidKind → Reading
  | .standard => .obdStandard a (knownCode p a)
  | .fuel => .fuelLevelPercent (fuelPercent a)
  | .runtime => .runtimeSeconds (beValue a b)

/-- A payload as long as the kind needs has that reading (42_pid_decode.md R133). -/
theorem decodeAs_take {p : Params} {k : PidKind} {n : Nat} (h : k.need ≤ n) (a b : Byte) (t : List Byte) :
    decodeAs p k ((a :: b :: t).take n) = .ok (readingOf p a b k) := by
  obtain ⟨m, rfl⟩ := Nat.exists_eq_add_of_le' h
  cases k <;> rfl

/-- The big-endian value is that of the two bytes side by side (20_memory.md R53). -/
theorem beValue_eq_append (a b : Byte) : beValue a b = (a ++ b).toNat := by
  rw [BitVec.toNat_append, ← Nat.shiftLeft_add_eq_or_of_lt b.isLt, Nat.shiftLeft_eq]
  rfl

/-- What `DECP` puts into `RDG` for each kind (42_pid_decode.md R137). -/
theorem ofReading_readingOf_standard (p : Params) (a b : Byte) :
    RdgGroup.ofReading (readingOf p a b .standard) a = ⟨1, 0#8 ++ a, knownCode p a⟩ := by
  have hval : a.setWidth 16 = 0#8 ++ a := BitVec.setWidth_eq_append (by decide)
  rw [← hval]
  rfl

theorem ofReading_readingOf_fuel (p : Params) (a b : Byte) :
    RdgGroup.ofReading (readingOf p a b .fuel) a = ⟨2, BitVec.ofNat 16 (100 * a.toNat), false⟩ := by
  have hval : 100 * a.setWidth 16 = BitVec.ofNat 16 (100 * a.toNat) := by
    apply BitVec.eq_of_toNat_eq
    simp
  rw [← hval]
  rfl

theorem ofReading_readingOf_runtime (p : Params) (a b : Byte) :
    RdgGroup.ofReading (readingOf p a b .runtime) a = ⟨3, a ++ b, false⟩ := by
  have hval : BitVec.ofNat 16 (beValue a b) = a ++ b := by rw [beValue_eq_append, BitVec.ofNat_toNat]; rfl
  rw [← hval]
  rfl

/-- A frame that is recognised, and whose response has a reading, is taken to that reading (30_encoding.md R76, R83). -/
theorem interpret_of_reading {s t : State} {f : Frame} {v : Reading} (ht : s.recognise f = t) (hrv : t.rv = true)
    (hv : decodePid t.params t.rsp.pid t.rsp.payload = .ok v) : s.interpret f = (t.writeCmd 3).putReading v := by
  rw [State.interpret, ht, if_pos hrv]
  exact runDecp_of_reading (s := t.writeCmd 3) hrv hv

/-- The first payload byte is at index 3, and every kind needs it (30_encoding.md R74, R76). -/
theorem write_responseOf_pl0 (old : RspGroup) (pid : Byte) {f : RspFields} {k : PidKind} (hf : f.fitsKind k = true) :
    (old.write (responseOf pid f)).pl.pl0 = f.d3 := by
  have hpos : 0 < f.n.toNat - 2 := (need_pos k).trans_le (need_le_of_fitsKind hf)
  simp [RspGroup.write, Payload.write, responseOf, hpos]

/-- What a row of a kind leaves, with its pid the expected one (30_encoding.md R76, 42_pid_decode.md R137). -/
theorem interpret_responseFrame {s : State} {k : PidKind} {f : RspFields} (hp : s.params.valid = true)
    (hpv : s.pv = true) (hpid : s.pidr = s.params.pidOf k) (hf : f.fitsKind k = true) :
    s.interpret (responseFrame s.pidr f) =
      { s with frm := responseFrame s.pidr f, fv := true, rsp := s.rsp.write (responseOf s.pidr f), rv := true,
               rdg := RdgGroup.ofReading (readingOf s.params f.d3 f.d4 k) f.d3, dv := true, cmd := 3,
               stat := 0x600 } := by
  have hrec := recognise_responseFrame hpv rfl (fits_of_fitsKind hf)
  have hkind : s.params.kindOf s.pidr = some k := by rw [hpid]; exact kindOf_pidOf hp k
  have hpayload := (write_responseOf s.rsp (pid := s.pidr) (fits_of_fitsKind hf)).2
  have hread : decodePid s.params s.pidr (s.rsp.write (responseOf s.pidr f)).payload =
      .ok (readingOf s.params f.d3 f.d4 k) := by
    rw [decodePid, hkind, hpayload]
    exact decodeAs_take (need_le_of_fitsKind hf) f.d3 f.d4 [f.d5, f.d6]
  rw [interpret_of_reading hrec rfl hread]
  simp only [State.putReading, State.writeCmd, write_responseOf_pl0 _ _ hf]
  rfl

theorem exec_responseRow (s : State) (f : RspFields) (k : PidKind) :
    exec (responseRow f k) s = .next (s.interpret (responseFrame (s.params.pidOf k) f)) := by
  cases k <;> rfl

/-- Settles O45: the frame goes through `DECF` and `DECP`, and `RDG` holds the reading of its kind. -/
theorem responseRowsRead : Obligations.ResponseRowsRead := by
  intro s k f hp hpv hpid hf
  obtain ⟨hlen, hpayload⟩ := write_responseOf s.rsp (pid := s.pidr) (fits_of_fitsKind hf)
  refine ⟨s.rsp.write (responseOf s.pidr f), RdgGroup.ofReading (readingOf s.params f.d3 f.d4 k) f.d3, rfl, rfl, hlen,
    hpayload, ?_, ?_, ?_, ?_⟩
  · rintro rfl
    rw [ofReading_readingOf_standard]
    exact ⟨rfl, rfl, knownCode_iff s.params f.d3⟩
  · rintro rfl
    exact ofReading_readingOf_fuel s.params f.d3 f.d4
  · rintro rfl
    exact ofReading_readingOf_runtime s.params f.d3 f.d4
  · rw [exec_responseRow, ← hpid, interpret_responseFrame hp hpv hpid hf]
    rfl

/-! ### The wrapper's frame -/

theorem payloadFrame_dlc (p : Byte) {s : List Byte} (h : s.length ≤ 4) :
    (payloadFrame p s).dlc.toNat = 3 + s.length := by
  rw [payloadFrame, BitVec.toNat_ofNat]
  exact Nat.mod_eq_of_lt (by omega)

theorem payloadFrame_d0 (p : Byte) {s : List Byte} (h : s.length ≤ 4) :
    (payloadFrame p s).data.d0.toNat = 2 + s.length := by
  rw [payloadFrame, BitVec.toNat_ofNat]
  exact Nat.mod_eq_of_lt (by omega)

/-- The payload bytes stand at indices 3 to `2 + len(s)`, whatever the fill bytes are (30_encoding.md R83). -/
theorem payloadFrame_payload (p : Byte) {s : List Byte} (h : s.length ≤ 4) :
    [(payloadFrame p s).data.d3, (payloadFrame p s).data.d4, (payloadFrame p s).data.d5,
      (payloadFrame p s).data.d6].take s.length = s := by
  rcases s with _ | ⟨a, _ | ⟨b, _ | ⟨c, _ | ⟨d, _ | ⟨e, t⟩⟩⟩⟩⟩
  case cons.cons.cons.cons.cons => simp at h; omega
  all_goals rfl

/-- Settles O50: the frame passes the four checks, and its payload is `s`. -/
theorem wrapperFrame : Obligations.WrapperFrame := by
  intro p s h
  have hdlc := payloadFrame_dlc p h
  have hd0 := payloadFrame_d0 p h
  have h9 : (payloadFrame p s).dlc.toNat < 9 := by omega
  have hlen : lenOkAt (payloadFrame p s).dlc.toNat (payloadFrame p s).data = true := by
    rw [lenOkAt_iff]
    omega
  have hid : idOkAt Config.rspIdLo = true := by decide
  refine ⟨_, toCanFrame?_of_dlc h9, ?_⟩
  rw [decodeResponse_of_checks (e := p) hid hlen rfl rfl]
  simp only [hd0, Nat.add_sub_cancel_left, payloadFrame_payload p h]

/-! ### The step -/

theorem actFrame_of_row {s : State} {w : FrameWord} {i : Instr} (h : decode s.params (.frame w) = .ok i) :
    actFrame w s = exec i s := by
  simp [actFrame, h]

theorem actFrame_of_reject {s : State} {w : FrameWord} {r : Reject} (h : decode s.params (.frame w) = .error r) :
    actFrame w s = .next (s.recognise (Frame.unpack w)) := by
  simp [actFrame, h]

theorem step_of_frame {s : State} {w : FrameWord} (hr : s.resetAsserted = false) (ha : s.nextAct = some (.frame w)) :
    step s = actFrame w s.sampled.popAct :=
  step_of_act hr ha (mayIssue_of_not_micro s rfl)

/-- Settles O5: moving past the act leaves the parameters, so the word decodes as before. -/
theorem stepRunsFrameWord : Obligations.StepRunsFrameWord := by
  intro s w hr ha
  have hparams : s.sampled.popAct.params = s.params := by rw [popAct_frame]; rfl
  rw [step_of_frame hr ha, ← hparams]
  exact ⟨fun i h => actFrame_of_row h, fun r h => actFrame_of_reject h⟩

end Sys2Proof.Machine
end

section
/-! SUPPORT. Proofs about `EncodeRequest`, `NOP` and `ENC` (40_frame_encode.md). -/

namespace Sys2Proof.Machine

/-! ### `EncodeRequest` -/

/-- Every pid of a byte's range is encoded (40_frame_encode.md R100). -/
theorem encodeRequest_of_inRange (p : Params) {n : Int} (h : ¬(n < 0 ∨ n > 255)) :
    encodeRequest p n =
      .ok ⟨0x7DF, 8, ⟨0x02, 0x01, BitVec.ofInt 8 n, p.pad, p.pad, p.pad, p.pad, p.pad⟩⟩ := if_neg h

/-- No other integer is a pid (40_frame_encode.md R103). -/
theorem encodeRequest_of_outOfRange (p : Params) {n : Int} (h : n < 0 ∨ n > 255) :
    encodeRequest p n = .err .rangeError := if_pos h

/-- Settles O17: the range check alone decides between the frame and the error. -/
theorem encodeRequestRange : Obligations.EncodeRequestRange := fun p _ =>
  ⟨fun hlo hhi => encodeRequest_of_inRange p (by omega), fun h => encodeRequest_of_outOfRange p h⟩

/-- What was built is addressed with the request id (40_frame_encode.md R100). -/
theorem arbitrationId_of_encodeRequest {p : Params} {n : Int} {f : CanFrame} (h : encodeRequest p n = .ok f) :
    f.arbitrationId = Config.reqId := by
  by_cases hn : n < 0 ∨ n > 255
  · rw [encodeRequest_of_outOfRange p hn] at h
    cases h
  · rw [encodeRequest_of_inRange p hn] at h
    cases h
    rfl

/-! ### The request id is no response id -/

/-- The id is checked first, so a frame off the response range fails with that kind whatever else it holds
(41_frame_decode.md R113). -/
theorem decodeResponse_of_wrongId {f : CanFrame} (e : Byte) (h : idOkAt f.arbitrationId = false) :
    decodeResponse f e = .err (.protocolError .wrongArbitrationId) := by
  have hfirst : firstFailure (checks f e) = some .wrongArbitrationId := by simp [firstFailure, checks_eq, h]
  exact (decodeResponse_err_iff f e _).2 ⟨_, hfirst, rfl⟩

theorem idOkAt_reqId : idOkAt Config.reqId = false := by decide

/-- Settles O18: the request id lies outside the response range. -/
theorem ownRequestRefused : Obligations.OwnRequestRefused := by
  intro p n f e h
  apply decodeResponse_of_wrongId
  rw [arbitrationId_of_encodeRequest h]
  exact idOkAt_reqId

/-! ### `NOP` and `ENC` -/

/-- Settles O15: the row's meaning is the state itself. -/
theorem nopEffect : Obligations.NopEffect := fun _ => rfl

/-- Settles O16: the two cases of R101, with the two words of `STAT` evaluated. -/
theorem encEffect : Obligations.EncEffect := by
  intro s
  constructor <;> intro hpv
  · exact congrArg Host.Outcome.next (runEnc_of_valid hpv)
  · exact congrArg Host.Outcome.next (runEnc_of_invalid hpv)

end Sys2Proof.Machine
end

section
/-! SUPPORT. Proofs about `DecodeResponse` and `DECF`: the first check that fails, what the response depends on, and what
the command leaves (41_frame_decode.md R110 to R119). -/

namespace Sys2Proof.Machine

/-! ### The outcome of `DecodeResponse` -/

/-- The kind of the error is the first check that fails (41_frame_decode.md R113). -/
theorem decodeResponse_protocolError_iff (f : CanFrame) (e : Byte) (k : CheckKind) :
    decodeResponse f e = .err (.protocolError k) ↔ firstFailure (checks f e) = some k := by
  simp [decodeResponse_err_iff]

/-- The length byte is checked second (41_frame_decode.md R113). -/
theorem decodeResponse_of_badLength {f : CanFrame} (e : Byte) (hid : idOkAt f.arbitrationId = true)
    (hlen : lenOkAt f.dlc.val f.data = false) : decodeResponse f e = .err (.protocolError .malformedLength) :=
  (decodeResponse_protocolError_iff _ _ _).2 (by simp [firstFailure, checks_eq, hid, hlen])

/-- The service byte is checked third (41_frame_decode.md R113). -/
theorem decodeResponse_of_wrongService {f : CanFrame} (e : Byte) (hid : idOkAt f.arbitrationId = true)
    (hlen : lenOkAt f.dlc.val f.data = true) (hsvc : svcOkAt f.dlc.val f.data = false) :
    decodeResponse f e = .err (.protocolError .wrongService) :=
  (decodeResponse_protocolError_iff _ _ _).2 (by simp [firstFailure, checks_eq, hid, hlen, hsvc])

/-- The pid byte is checked last (41_frame_decode.md R113). -/
theorem decodeResponse_of_pidMismatch {f : CanFrame} {e : Byte} (hid : idOkAt f.arbitrationId = true)
    (hlen : lenOkAt f.dlc.val f.data = true) (hsvc : svcOkAt f.dlc.val f.data = true)
    (hpid : pidOkAt f.dlc.val f.data e = false) : decodeResponse f e = .err (.protocolError .pidMismatch) :=
  (decodeResponse_protocolError_iff _ _ _).2 (by simp [firstFailure, checks_eq, hid, hlen, hsvc, hpid])

theorem svcOkAt_iff (n : Nat) (d : FrameData) : svcOkAt n d = true ↔ 2 ≤ n ∧ d.d1 = 0x41 := by
  simp [svcOkAt]

theorem pidOkAt_iff (n : Nat) (d : FrameData) (e : Byte) : pidOkAt n d e = true ↔ 3 ≤ n ∧ d.d2 = e := by
  simp [pidOkAt]

/-- A frame that passes the four checks is the response (41_frame_decode.md R110). -/
theorem decodeResponse_of_accepted {f : CanFrame} {e : Byte} (hid : idOkAt f.arbitrationId = true)
    (hlen : lenOkAt f.dlc.val f.data = true) (hsvc : svcOkAt f.dlc.val f.data = true)
    (hpid : pidOkAt f.dlc.val f.data e = true) :
    decodeResponse f e =
      .ok ⟨0x41, e, [f.data.d3, f.data.d4, f.data.d5, f.data.d6].take (f.data.d0.toNat - 2)⟩ :=
  decodeResponse_of_checks hid hlen ((svcOkAt_iff _ _).1 hsvc).2 ((pidOkAt_iff _ _ _).1 hpid).2

/-- Settles O19: one lemma for each check that can be the first to fail, and one for the response. -/
theorem decodeResponseOutcome : Obligations.DecodeResponseOutcome := by
  intro f e
  cases hid : idOkAt f.arbitrationId with
  | false => exact decodeResponse_of_wrongId e hid
  | true =>
    cases hlen : lenOkAt f.dlc.val f.data with
    | false => exact decodeResponse_of_badLength e hid hlen
    | true =>
      cases hsvc : svcOkAt f.dlc.val f.data with
      | false => exact decodeResponse_of_wrongService e hid hlen hsvc
      | true =>
        cases hpid : pidOkAt f.dlc.val f.data e with
        | false => exact decodeResponse_of_pidMismatch hid hlen hsvc hpid
        | true => exact decodeResponse_of_accepted hid hlen hsvc hpid

/-! ### What follows from the outcome -/

/-- The service and pid byte of a request (40_frame_encode.md R100). -/
theorem data_of_encodeRequest {p : Params} {b : Byte} {q : CanFrame} (h : encodeRequest p b.toNat = .ok q) :
    q.data.d1 = 0x01 ∧ q.data.d2 = b := by
  obtain ⟨f, hf, hframe⟩ := encodeRequest_byte p b
  obtain rfl : q = f := Result.ok.inj (h.symm.trans hf)
  have hdata : q.data = (requestFrame p b).data := congrArg Frame.data hframe
  rw [hdata]
  exact ⟨rfl, rfl⟩

/-- Settles O20: the request's service byte plus 0x40 is 0x41, and its pid byte is the pid. -/
theorem responseRoundTrip : Obligations.ResponseRoundTrip := by
  intro p b q g hq hid hlow hhigh hdlc hsvc hpid
  obtain ⟨hq1, hq2⟩ := data_of_encodeRequest hq
  have hsvc41 : g.data.d1 = 0x41 := by rw [hsvc, hq1]; rfl
  exact ⟨_, decodeResponse_of_checks hid ((lenOkAt_iff _ _).2 ⟨hlow, hhigh, hdlc⟩) hsvc41 (hpid.trans hq2), rfl, rfl⟩

/-- Settles O21: only the length check comes between the id and the service. -/
theorem wrongServiceRefused : Obligations.WrongServiceRefused := by
  intro f e hid hd1
  have hsvc : svcOkAt f.dlc.val f.data = false :=
    Bool.eq_false_iff.2 fun h => hd1 ((svcOkAt_iff _ _).1 h).2
  cases hlen : lenOkAt f.dlc.val f.data with
  | false => exact decodeResponse_of_badLength e hid hlen
  | true => exact decodeResponse_of_wrongService e hid hlen hsvc

/-- The length check reads byte 0 only. -/
theorem lenOkAt_congr (n : Nat) {d d' : FrameData} (h : d.d0 = d'.d0) : lenOkAt n d = lenOkAt n d' := by
  simp only [lenOkAt, h]

/-- A payload depends only on the bytes below its length. -/
theorem take_payload_congr {a b c d a' b' c' d' : Byte} (n : Nat) (ha : 1 ≤ n → a = a') (hb : 2 ≤ n → b = b')
    (hc : 3 ≤ n → c = c') (hd : 4 ≤ n → d = d') : [a, b, c, d].take n = [a', b', c', d'].take n := by
  match n with
  | 0 => rfl
  | 1 => simp [ha]
  | 2 => simp [ha, hb]
  | 3 => simp [ha, hb, hc]
  | _ + 4 => simp [ha, hb, hc, hd]

/-- Settles O22: with a malformed length byte no byte after it is looked at, and with a well-formed one the bytes up to
index N are the same in both frames. -/
theorem paddingIgnored : Obligations.PaddingIgnored := by
  intro f g e hdlc hid h0 h1 h2 h3 h4 h5 h6
  have hlenEq : lenOkAt g.dlc.val g.data = lenOkAt f.dlc.val f.data := by rw [hdlc, lenOkAt_congr _ h0]
  rw [decodeResponseOutcome f e, decodeResponseOutcome g e, hlenEq, hid]
  cases hlen : lenOkAt f.dlc.val f.data with
  | false => rfl
  | true =>
    obtain ⟨hlow, -, -⟩ := (lenOkAt_iff _ _).1 hlen
    have hsvc : svcOkAt f.dlc.val f.data = svcOkAt g.dlc.val g.data := by
      simp only [svcOkAt, hdlc, h1 (by omega)]
    have hpid : pidOkAt f.dlc.val f.data e = pidOkAt g.dlc.val g.data e := by
      simp only [pidOkAt, hdlc, h2 hlow]
    have hpayload :
        [f.data.d3, f.data.d4, f.data.d5, f.data.d6].take (f.data.d0.toNat - 2) =
          [g.data.d3, g.data.d4, g.data.d5, g.data.d6].take (f.data.d0.toNat - 2) :=
      take_payload_congr _ (fun _ => h3 (by omega)) (fun _ => h4 (by omega)) (fun _ => h5 (by omega))
        fun _ => h6 (by omega)
    rw [hsvc, hpid, hpayload, h0]

/-! ### `DECF` -/

theorem toCanFrame?_eq_some {g : Frame} {f : CanFrame} (hid : f.arbitrationId = g.id)
    (hdlc : f.dlc.val = g.dlc.toNat) (hdata : f.data = g.data) : toCanFrame? g = some f := by
  have h9 : g.dlc.toNat < 9 := hdlc ▸ f.dlc.isLt
  rw [toCanFrame?_of_dlc h9, ← hid, ← hdata]
  exact congrArg (fun n => some (CanFrame.mk f.arbitrationId n f.data)) (Fin.ext hdlc.symm)

/-- A group whose `DLC` is 9 or more is no `CanFrame` (41_frame_decode.md R119). -/
theorem toCanFrame?_of_oversize {f : Frame} (h : 9 ≤ f.dlc.toNat) : toCanFrame? f = none := dif_neg (by omega)

/-- Settles O24: the id alone decides between the two words of `STAT`. -/
theorem decfOversize : Obligations.DecfOversize := by
  intro s hfv hpv hdlc
  have hrun := runDecf_of_oversize hfv hpv (toCanFrame?_of_oversize hdlc)
  refine congrArg Host.Outcome.next (hrun.trans ?_)
  rw [oversizeFlags, idInRange_eq_idOkAt]
  cases idOkAt s.frm.id <;> rfl

/-- The length register holds the length of the response that was written (10_state.md R30). -/
theorem write_len (old : RspGroup) {r : ObdResponse} (h : r.payload.length ≤ 4) :
    (old.write r).len.toNat = r.payload.length := by
  rw [RspGroup.write, BitVec.toNat_ofNat]
  exact Nat.mod_eq_of_lt (by omega)

/-- Settles O23: no operands, no `CanFrame`, a response, or a check that fails. -/
theorem decfEffect : Obligations.DecfEffect := by
  intro s
  refine ⟨fun h => congrArg Host.Outcome.next (runDecf_of_invalid h), decfOversize s, ?_⟩
  intro f hfv hpv hid hdlc hdata
  have hframe := toCanFrame?_eq_some hid hdlc hdata
  constructor
  · intro r hr
    obtain ⟨-, -, -, h4⟩ := decodeResponse_ok_facts hr
    exact ⟨s.rsp.write r, rfl, rfl, write_len _ h4, write_payload h4,
      congrArg Host.Outcome.next (runDecf_of_response hfv hpv hframe hr)⟩
  · intro k hk
    have hfirst := (decodeResponse_protocolError_iff f s.pidr k).1 hk
    exact congrArg Host.Outcome.next (runDecf_of_failure hfv hpv hframe hfirst)

/-- Settles O25: the four checks give the response, which `DECF` writes. -/
theorem decfAccepts : Obligations.DecfAccepts := by
  intro s hfv hpv hdlc hid hlen hsvc hpid
  have hresponse := decodeResponse_of_accepted (f := ⟨s.frm.id, ⟨_, Nat.lt_succ_of_le hdlc⟩, s.frm.data⟩)
    hid hlen hsvc hpid
  obtain ⟨-, -, hframe⟩ := decfEffect s
  obtain ⟨g, hgsid, hgpid, hglen, hgpayload, hexec⟩ := (hframe _ hfv hpv rfl rfl rfl).1 _ hresponse
  obtain ⟨-, -, hlength, -⟩ := decodeResponse_ok_facts hresponse
  exact ⟨g, hgsid, hgpid, hglen.trans hlength, hgpayload, hexec⟩

/-- A failing check has a first one, and `KIND` is its code (41_frame_decode.md R113, R116). -/
theorem firstFailure_code {i l v p : Bool} (h : (i && l && v && p) = false) :
    ∃ k, firstFailure ⟨i, l, v, p⟩ = some k ∧
      k.code = if !i then 0#2 else if !l then 1#2 else if !v then 2#2 else 3#2 :=
  match i, l, v, p, h with
  | false, _, _, _, _ => ⟨.wrongArbitrationId, rfl, rfl⟩
  | true, false, _, _, _ => ⟨.malformedLength, rfl, rfl⟩
  | true, true, false, _, _ => ⟨.wrongService, rfl, rfl⟩
  | true, true, true, false, _ => ⟨.pidMismatch, rfl, rfl⟩

/-- Settles O26: the flags are the four checks, and the kind is that of the first that fails. -/
theorem decfRefuses : Obligations.DecfRefuses := by
  intro s i l v p hfv hpv hdlc hi hl hv hp hrefused
  obtain ⟨k, hfirst, hcode⟩ := firstFailure_code hrefused
  have hchecks : checks ⟨s.frm.id, ⟨_, Nat.lt_succ_of_le hdlc⟩, s.frm.data⟩ s.pidr = ⟨i, l, v, p⟩ := by
    rw [checks_eq, hi, hl, hv, hp]
  obtain ⟨-, -, hframe⟩ := decfEffect s
  rw [← hchecks, ← decodeResponse_protocolError_iff] at hfirst
  rw [(hframe _ hfv hpv rfl rfl rfl).2 k hfirst, hchecks, hcode]
  rfl

/-! ### Response rows that leave no response -/

/-- Without an expected pid no frame is recognised (41_frame_decode.md R116). -/
theorem recognise_of_noPid {s : State} (hpv : s.pv = false) (f : Frame) :
    s.recognise f = { s with frm := f, fv := true, rv := false, dv := false, cmd := 2, stat := 0x405 } :=
  runDecf_of_invalid (s := (s.ldFrm f).writeCmd 2) (.inr hpv)

/-- A frame that passes against one pid fails the pid check alone against another (41_frame_decode.md R112). -/
theorem checks_of_otherPid {f : CanFrame} {e e' : Byte} (h : checks f e = allFlags) (hne : e' ≠ e) :
    checks f e' = ⟨true, true, true, false⟩ := by
  rw [checks_eq, allFlags, CheckFlags.mk.injEq] at h
  obtain ⟨hid, hlen, hsvc, hpid⟩ := h
  obtain ⟨-, hd2⟩ := (pidOkAt_iff _ _ _).1 hpid
  have hpid' : pidOkAt f.dlc.val f.data e' = false :=
    Bool.eq_false_iff.2 fun h' => hne (((pidOkAt_iff _ _ _).1 h').2.symm.trans hd2)
  rw [checks_eq, hid, hlen, hsvc, hpid']

/-- The frame of a response row fails the pid check alone against another pid (41_frame_decode.md R112, R116). -/
theorem recognise_responseFrame_of_otherPid {s : State} {pid : Byte} {f : RspFields} (hpv : s.pv = true)
    (hpid : s.pidr ≠ pid) (hf : f.fits 2 = true) :
    s.recognise (responseFrame pid f) =
      { s with frm := responseFrame pid f, fv := true, rv := false, dv := false, cmd := 2, stat := 0x4FA } := by
  obtain ⟨g, hg, hd⟩ := decodeResponse_responseFrame (pid := pid) hf
  have hchecks := checks_of_otherPid ((decodeResponse_ok_iff _ _ _).1 hd).1 hpid
  have hfirst : firstFailure (checks g s.pidr) = some .pidMismatch := by rw [hchecks]; rfl
  unfold State.recognise
  rw [runDecf_of_failure (s := (s.ldFrm (responseFrame pid f)).writeCmd 2) rfl hpv hg hfirst, writeCmd_pidr,
    ldFrm_pidr, hchecks]
  rfl

/-- A refused frame is not taken to `DECP` (30_encoding.md R83). -/
theorem interpret_of_refused {s t : State} {f : Frame} (ht : s.recognise f = t) (hrv : t.rv = false) :
    s.interpret f = t := by
  rw [State.interpret, ht, hrv]
  rfl

/-- Of a frame that is refused, a response row of either sort leaves what recognising it does. -/
theorem exec_response_of_refused {s t : State} {i : Instr} {p : Byte} {f : RspFields}
    (hi : i = .rsp p f ∨ ∃ k, i = responseRow f k ∧ p = s.params.pidOf k)
    (ht : s.recognise (responseFrame p f) = t) (hrv : t.rv = false) : exec i s = .next t := by
  rcases hi with rfl | ⟨k, rfl, rfl⟩
  · exact congrArg Host.Outcome.next ht
  · rw [exec_responseRow, interpret_of_refused ht hrv]

/-- Settles O46: no pid to expect, or only the pid check fails. -/
theorem responseRowsRefused : Obligations.ResponseRowsRefused := by
  intro s i p f hi
  exact ⟨fun hpv => exec_response_of_refused hi (recognise_of_noPid hpv _) rfl,
    fun hpv hpid hf => exec_response_of_refused hi (recognise_responseFrame_of_otherPid hpv hpid hf) rfl⟩

end Sys2Proof.Machine
end

section
/-! SUPPORT. Proofs about `DecodePid`, `DECP` and its selector rows (42_pid_decode.md). -/

namespace Sys2Proof.Machine

/-! ### What `DecodePid` gives -/

/-- A pid of the closed set is decoded by the formula of its kind (42_pid_decode.md R132). -/
theorem decodePid_of_kind {p : Params} {b : Byte} {k : PidKind} (h : p.kindOf b = some k) (s : List Byte) :
    decodePid p b s = decodeAs p k s := by
  rw [decodePid, h]

/-- The pid is looked up before the payload, so the payload makes no difference here (42_pid_decode.md R132). -/
theorem decodePid_unsupportedPid_iff (p : Params) (b : Byte) (s : List Byte) :
    decodePid p b s = .err .unsupportedPid ↔ p.kindOf b = none := by
  cases h : p.kindOf b with
  | none => simp [decodePid, h]
  | some k => simp [decodePid_of_kind h, decodeAs_err_iff]

theorem decodePid_decodeError_iff {p : Params} {b : Byte} {k : PidKind} (h : p.kindOf b = some k) (s : List Byte) :
    decodePid p b s = .err .decodeError ↔ s.length < k.need := by
  simp [decodePid_of_kind h, decodeAs_err_iff]

/-- Settles O27: the lookup fails on a pid outside the set, and a formula on a short payload. -/
theorem decodePidErrors : Obligations.DecodePidErrors := by
  intro p b s
  refine ⟨?_, fun k hk => decodePid_decodeError_iff hk s, fun e => decodePid_err⟩
  exact (decodePid_unsupportedPid_iff p b s).trans (kindOf_eq_none_iff p b)

/-! ### The OBD standard -/

/-- `PID_STD` is looked up first, so it selects its kind even where the three pids are not distinct
(42_pid_decode.md R131). -/
theorem kindOf_pidStd (p : Params) : p.kindOf p.pidStd = some .standard := if_pos rfl

/-- Settles O28: the formula of the standard kind reads one byte. -/
theorem standardReading : Obligations.StandardReading := by
  intro p a t
  refine ⟨⟨knownCode p a, ?_, knownCode_iff p a⟩, ?_⟩
  · exact decodePid_of_kind (kindOf_pidStd p) (a :: t)
  · exact decodePid_of_kind (kindOf_pidStd p) []

/-! ### The fuel level -/

/-- The fuel level grows with its byte (42_pid_decode.md R135, R140). -/
theorem fuelPercent_le_iff (a c : Byte) : fuelPercent a ≤ fuelPercent c ↔ a.toNat ≤ c.toNat := by
  rw [fuelPercent_eq, fuelPercent_eq, div_le_div_iff_of_pos_right (by norm_num),
    mul_le_mul_iff_right₀ (by norm_num), Nat.cast_le]

/-- `100 * A / 255` in lowest terms is `20 * A / 51` (42_pid_decode.md R135). -/
theorem fuelPercent_isNat_iff (a : Byte) : (∃ n : Nat, fuelPercent a = n) ↔ 51 ∣ a.toNat := by
  have hnat : ∀ n : Nat, fuelPercent a = n ↔ 100 * a.toNat = n * 255 := by
    intro n
    rw [fuelPercent_eq, div_eq_iff (by norm_num)]
    norm_cast
  simp only [hnat]
  constructor
  · rintro ⟨n, hn⟩
    omega
  · rintro ⟨m, hm⟩
    exact ⟨20 * m, by omega⟩

theorem dvd_toNat_iff_mem (a : Byte) : 51 ∣ a.toNat ↔ a ∈ ([0, 51, 102, 153, 204, 255] : List Byte) := by
  revert a
  decide

/-- Settles O29: the clamp never acts, and the integers are the multiples of 51. -/
theorem fuelReading : Obligations.FuelReading := by
  intro p a c t hp
  have hkind : p.kindOf 0x2F = some .fuel := kindOf_pidOf hp .fuel
  obtain ⟨hlow, hhigh⟩ := fuelPercent_range a
  simp only [← fuelPercent_eq]
  refine ⟨decodePid_of_kind hkind (a :: t), decodePid_of_kind hkind [], hlow, hhigh, ?_, ?_⟩
  · exact (lt_iff_lt_of_le_iff_le (fuelPercent_le_iff c a)).2
  · exact (fuelPercent_isNat_iff a).trans (dvd_toNat_iff_mem a)

/-- Settles O31: both ends and the value at 0x80 are evaluated, and the value grows with its byte. -/
theorem fuelFormatExact : Obligations.FuelFormatExact := by
  have h255 : (255 : Byte).toNat = 255 := rfl
  have h128 : (0x80 : Byte).toNat = 128 := rfl
  refine ⟨?_, ?_, fun a b => (fuelPercent_le_iff a b).2, ?_, ?_⟩ <;> rw [fuelPercent_eq]
  · norm_num
  · norm_num [h255]
  · norm_num [h128]
  · norm_num [h128]

/-! ### The runtime -/

/-- Settles O30: the formula of the runtime kind reads two bytes, most significant first. -/
theorem runtimeReading : Obligations.RuntimeReading := by
  intro p a b t hp
  have hkind : p.kindOf p.pidRuntime = some .runtime := kindOf_pidOf hp .runtime
  exact ⟨decodePid_of_kind hkind (a :: b :: t), beValue_eq_append a b, beValue_le a b, decodePid_of_kind hkind [a],
    decodePid_of_kind hkind []⟩

/-! ### `DECP` on the outcome of `DecodePid` -/

/-- The register form of a standard code, known or not (10_state.md R31, 42_pid_decode.md R137). -/
theorem ofReading_obdStandard (c : Byte) (k : Bool) (a : Byte) :
    RdgGroup.ofReading (.obdStandard c k) a = ⟨1, 0#8 ++ c, k⟩ := by
  have hval : c.setWidth 16 = 0#8 ++ c := BitVec.setWidth_eq_append (by decide)
  rw [← hval]
  rfl

theorem exec_decp_of_reading {s : State} {v : Reading} {g : RdgGroup} (hrv : s.rv = true)
    (hv : decodePid s.params s.rsp.pid s.rsp.payload = .ok v) (hg : RdgGroup.ofReading v s.rsp.pl.pl0 = g) :
    exec .decp s = .next { s with rdg := g, dv := true, stat := 0x600 } := by
  subst hg
  exact congrArg Host.Outcome.next (runDecp_of_reading hrv hv)

theorem exec_decp_of_error {s : State} {e : Error} (hrv : s.rv = true)
    (he : decodePid s.params s.rsp.pid s.rsp.payload = .err e) :
    exec .decp s = .next { s with dv := false, stat := statErr .decp noFlags e } :=
  congrArg Host.Outcome.next (runDecp_of_error hrv he)

theorem exec_decp_of_invalid {s : State} (hrv : s.rv = false) :
    exec .decp s = .next { s with dv := false, stat := 0x605 } :=
  congrArg Host.Outcome.next (runDecp_of_invalid hrv)

/-- Settles O32: one case for each outcome `DecodePid` can have, the others being excluded by R141. The fuel group holds
100 times the payload byte and nothing of the rational, so the lemma on the fuel formula gives it for every one. -/
theorem decpEffect : Obligations.DecpEffect := by
  refine fun s => ⟨exec_decp_of_invalid, fun hrv => ?_⟩
  split
  next c k hv => exact exec_decp_of_reading hrv hv (ofReading_obdStandard c k _)
  next q hv => exact exec_decp_of_reading hrv hv (ofReading_readingOf_fuel s.params _ 0)
  next n hv => exact exec_decp_of_reading hrv hv rfl
  next he => exact exec_decp_of_error hrv he
  next he => exact exec_decp_of_error hrv he
  next e hdecode hpid he => exact (decodePid_err he).elim hpid hdecode

/-! ### The selector rows -/

/-- With a valid response a row ends on the outcome of its kind's formula (42_pid_decode.md R134 to R137). -/
theorem runDecpAs_of_valid {s : State} (hrv : s.rv = true) (k : PidKind) :
    s.runDecpAs k = s.finishDecp (decodeAs s.params k s.rsp.payload) := by
  rw [State.runDecpAs, if_pos hrv]

theorem runDecpAs_of_invalid {s : State} (hrv : s.rv = false) (k : PidKind) :
    s.runDecpAs k = s.raise .decp noFlags .operandInvalid := by
  simp [State.runDecpAs, hrv]

/-- Settles O33: `DECP` and every row look at `RV` before anything else. -/
theorem decpOperandInvalid : Obligations.DecpOperandInvalid := by
  intro s i hi hrv
  have hrow (k : PidKind) : exec (selectorRow k) s = .next { s with dv := false, stat := 0x605 } := by
    rw [exec_selectorRow, runDecpAs_of_invalid hrv]
    rfl
  simp only [List.mem_cons, List.not_mem_nil, or_false] at hi
  rcases hi with rfl | rfl | rfl | rfl
  · exact exec_decp_of_invalid hrv
  · exact hrow .standard
  · exact hrow .fuel
  · exact hrow .runtime

/-- The instruction runs the formula of kind `k`: the row of `k` run on its own, or `DECP` with a pid that selects that
row (30_encoding.md R81; log entry 9). -/
def State.Selects (s : State) (i : Instr) (k : PidKind) : Prop :=
  i = selectorRow k ∨ i = .decp ∧ s.params.kindOf s.rsp.pid = some k

theorem exec_of_selects {s : State} {i : Instr} {k : PidKind} (hi : s.Selects i k) :
    exec i s = .next (s.runDecpAs k) := by
  rcases hi with rfl | ⟨rfl, hk⟩
  · exact exec_selectorRow s k
  · exact congrArg Host.Outcome.next (runDecp_of_kind hk)

/-- A kind needs no more bytes than the payload register holds, so `RSP.LEN` alone says whether the payload is too
short (42_pid_decode.md R133). -/
theorem payload_short_iff (g : RspGroup) (k : PidKind) : g.payload.length < k.need ↔ g.len.toNat < k.need := by
  have hneed : k.need ≤ 4 := by cases k <;> decide
  rw [payload_length]
  omega

/-- The formula of a kind on a payload too short for it (42_pid_decode.md R133, R137). -/
theorem exec_of_short {s : State} {i : Instr} {k : PidKind} (hi : s.Selects i k) (hrv : s.rv = true)
    (hlen : s.rsp.len.toNat < k.need) : exec i s = .next { s with dv := false, stat := 0x603 } := by
  rw [exec_of_selects hi, runDecpAs_of_valid hrv,
    (decodeAs_err_iff _ _ _ .decodeError).2 ⟨(payload_short_iff _ _).2 hlen, rfl⟩]
  rfl

/-- The formula of a kind on a payload as long as it needs (42_pid_decode.md R134 to R137). -/
theorem exec_of_long {s : State} {i : Instr} {k : PidKind} {g : RdgGroup} (hi : s.Selects i k) (hrv : s.rv = true)
    (hlen : k.need ≤ s.rsp.len.toNat)
    (hg : RdgGroup.ofReading (readingOf s.params s.rsp.pl.pl0 s.rsp.pl.pl1 k) s.rsp.pl.pl0 = g) :
    exec i s = .next { s with rdg := g, dv := true, stat := 0x600 } := by
  subst hg
  rw [exec_of_selects hi, runDecpAs_of_valid hrv, RspGroup.payload, plBytes, decodeAs_take hlen]
  rfl

/-- Settles O34: the lookup of `RSP.PID` fails, or the formula of the kind that is run does. -/
theorem decpErrors : Obligations.DecpErrors := by
  intro s hrv
  refine ⟨fun hstd hfuel hrun => ?_, fun k hk hlen => exec_of_short (.inr ⟨rfl, hk⟩) hrv hlen,
    fun k hlen => exec_of_short (.inl rfl) hrv hlen⟩
  have hnone : s.params.kindOf s.rsp.pid = none := (kindOf_eq_none_iff _ _).2 ⟨hstd, hfuel, hrun⟩
  exact exec_decp_of_error hrv ((decodePid_unsupportedPid_iff _ _ _).2 hnone)

/-- Settles O35: `PID_STD` selects the row, and one byte is enough for it. -/
theorem decpStandard : Obligations.DecpStandard := by
  intro s i hrv hlen hi
  have hsel : s.Selects i .standard :=
    hi.imp_right fun ⟨hdecp, hpid⟩ => ⟨hdecp, hpid ▸ kindOf_pidStd s.params⟩
  exact ⟨knownCode s.params s.rsp.pl.pl0, knownCode_iff _ _,
    exec_of_long hsel hrv hlen (ofReading_readingOf_standard ..)⟩

/-- Settles O36: 0x2F selects the row, and one byte is enough for it. -/
theorem decpFuel : Obligations.DecpFuel := by
  intro s i hrv hlen hi
  have hsel : s.Selects i .fuel :=
    hi.imp_right fun ⟨hdecp, hpid, hp⟩ => ⟨hdecp, hpid ▸ kindOf_pidOf hp .fuel⟩
  exact exec_of_long hsel hrv hlen (ofReading_readingOf_fuel ..)

/-- Settles O37: `PID_RUNTIME` selects the row, and two bytes are enough for it. -/
theorem decpRuntime : Obligations.DecpRuntime := by
  intro s i hrv hlen hi
  have hsel : s.Selects i .runtime :=
    hi.imp_right fun ⟨hdecp, hpid, hp⟩ => ⟨hdecp, hpid ▸ kindOf_pidOf hp .runtime⟩
  exact exec_of_long hsel hrv hlen (ofReading_readingOf_runtime ..)

end Sys2Proof.Machine
end

section
/-! SUPPORT. Proofs about the sequencer's functions: the classification of a frame, the first frame that decides, and
the slots of a session (43_query_sequencer.md R154 to R163). -/

namespace Sys2Proof.Machine

/-! ### Classification -/

theorem classify_of_wrongId {f : CheckFlags} (h : f.idOk = false) : classify f = .skip := by
  simp [classify, h]

theorem classify_of_otherPid {f : CheckFlags} (h : f.pidOk = false) : classify f = .skip := by
  simp [classify, h]

/-- A response to the pid asked for is never skipped: its length is checked before its service (43_query_sequencer.md
R155). -/
theorem classify_of_match {f : CheckFlags} (hid : f.idOk = true) (hpid : f.pidOk = true) :
    classify f = if !f.lenOk then .fail .malformedLength else if !f.svcOk then .fail .wrongService else .accept := by
  cases hl : f.lenOk <;> cases hs : f.svcOk <;> simp [classify, hid, hpid, hl, hs]

theorem classify_accept_iff (f : CheckFlags) : classify f = .accept ↔ f = allFlags := by
  obtain ⟨i, l, v, p⟩ := f
  cases i <;> cases l <;> cases v <;> cases p <;> decide

/-- An accepted frame has a response (41_frame_decode.md R110). -/
theorem exists_response_of_accept {g : CanFrame} {p : Byte} (h : classify (checks g p) = .accept) :
    ∃ r, decodeResponse g p = .ok r :=
  ⟨_, (decodeResponse_ok_iff g p _).2 ⟨(classify_accept_iff _).1 h, rfl⟩⟩

theorem accept_of_response {g : CanFrame} {p : Byte} {r : ObdResponse} (h : decodeResponse g p = .ok r) :
    classify (checks g p) = .accept :=
  (classify_accept_iff _).2 ((decodeResponse_ok_iff g p r).1 h).1

/-- Settles O51: the flags are the four checks, and `DECF` on the loaded frame leaves them in `STAT.CHK`. -/
theorem classification : Obligations.Classification := by
  intro g p
  refine ⟨fun hid => ?_, fun hpid => ?_, fun hid hpid => ?_, exists_response_of_accept, fun s hpv hpidr => ?_⟩
  · exact classify_of_wrongId (by rw [checks_eq, hid])
  · exact classify_of_otherPid (by rw [checks_eq, hpid])
  · rw [checks_eq]
    exact classify_of_match hid hpid
  · obtain ⟨hflags, -⟩ := runDecf_flags (s := s.ldFrm (CanFrame.toFrame g)) rfl hpv rfl
    exact ⟨_, rfl, hpidr ▸ hflags⟩

/-! ### The first frame that is not skipped -/

theorem awaitAnswer_of_skip {ps : Params} {p : Byte} {g : CanFrame} (h : classify (checks g p) = .skip)
    (l : List RxEvent) : awaitAnswer ps p (.frame g :: l) = awaitAnswer ps p l := by
  rw [awaitAnswer, h]

theorem awaitAnswer_of_fail {ps : Params} {p : Byte} {g : CanFrame} {k : CheckKind}
    (h : classify (checks g p) = .fail k) (l : List RxEvent) :
    awaitAnswer ps p (.frame g :: l) = .err (.protocolError k) := by
  rw [awaitAnswer, h]

/-- An accepted frame is decoded to the outcome, whatever follows it (43_query_sequencer.md R156, R158). -/
theorem awaitAnswer_of_response {ps : Params} {p : Byte} {g : CanFrame} {r : ObdResponse}
    (h : decodeResponse g p = .ok r) (l : List RxEvent) :
    awaitAnswer ps p (.frame g :: l) = decodePid ps r.pid r.payload := by
  rw [awaitAnswer, accept_of_response h, h]

theorem awaitAnswer_append_of_allSkipped (ps : Params) {p : Byte} {l : List RxEvent} (h : AllSkipped p l)
    (r : List RxEvent) : awaitAnswer ps p (l ++ r) = awaitAnswer ps p r := by
  induction l with
  | nil => rfl
  | cons e l ih =>
    obtain ⟨he, hl⟩ := List.forall_mem_cons.1 h
    obtain ⟨g, rfl, hg⟩ := he
    exact (awaitAnswer_of_skip hg _).trans (ih hl)

theorem awaitAnswer_stops {ps : Params} {p : Byte} {g : CanFrame} (h : classify (checks g p) ≠ .skip)
    (r : List RxEvent) : awaitAnswer ps p (.frame g :: r) = awaitAnswer ps p [.frame g] := by
  cases hc : classify (checks g p) with
  | skip => exact absurd hc h
  | fail k => rw [awaitAnswer_of_fail hc, awaitAnswer_of_fail hc]
  | accept =>
    obtain ⟨x, hx⟩ := exists_response_of_accept hc
    rw [awaitAnswer_of_response hx, awaitAnswer_of_response hx]

/-- Settles O52: the skipped frames drop off the head, and the first other frame stops the reading. -/
theorem firstMatchWins : Obligations.FirstMatchWins := by
  refine fun ps p l r g hl => ⟨awaitAnswer_append_of_allSkipped ps hl r, ?_, fun hg => ?_⟩
  · simpa [awaitAnswer] using awaitAnswer_append_of_allSkipped ps hl []
  · rw [awaitAnswer_append_of_allSkipped ps hl, awaitAnswer_stops hg]

/-! ### The session -/

/-- The outcome of a session's k-th query (43_query_sequencer.md R161). -/
def slotOutcome (ps : Params) (k : Fin 3) (o : TransportInput) : Result Reading :=
  queryResult ps (ps.pidOf (sessionKind k)) o

section

variable {ps : Params} {o0 o1 o2 : TransportInput}

theorem sessionResult_of_first (h0 : slotOutcome ps 0 o0 = .err .transportError) :
    sessionResult ps o0 o1 o2 = (⟨.done (slotOutcome ps 0 o0), .notAttempted, .notAttempted⟩, 0) :=
  if_pos h0

theorem sessionResult_of_second (h0 : slotOutcome ps 0 o0 ≠ .err .transportError)
    (h1 : slotOutcome ps 1 o1 = .err .transportError) :
    sessionResult ps o0 o1 o2 = (⟨.done (slotOutcome ps 0 o0), .done (slotOutcome ps 1 o1), .notAttempted⟩, 1) :=
  (if_neg h0).trans (if_pos h1)

theorem sessionResult_of_third (h0 : slotOutcome ps 0 o0 ≠ .err .transportError)
    (h1 : slotOutcome ps 1 o1 ≠ .err .transportError) :
    sessionResult ps o0 o1 o2 =
      (⟨.done (slotOutcome ps 0 o0), .done (slotOutcome ps 1 o1), .done (slotOutcome ps 2 o2)⟩,
        if slotOutcome ps 2 o2 = .err .transportError then 2 else 3) := by
  refine (if_neg h0).trans ((if_neg h1).trans ?_)
  exact (apply_ite (Prod.mk _) _ _ _).symm

end

/-- Settles O55: the session stops at the first query that ended in `TransportError`. -/
theorem sessionIsolation : Obligations.SessionIsolation := by
  intro ps o0 o1 o2 q0 q1 q2 r
  by_cases h0 : q0 = .err .transportError
  · rw [show r = _ from congrArg Prod.fst (sessionResult_of_first h0), if_pos h0, if_pos (.inl h0)]
    exact ⟨rfl, rfl, rfl⟩
  by_cases h1 : q1 = .err .transportError
  · rw [show r = _ from congrArg Prod.fst (sessionResult_of_second h0 h1), if_neg h0, if_pos (.inr h1)]
    exact ⟨rfl, rfl, rfl⟩
  · rw [show r = _ from congrArg Prod.fst (sessionResult_of_third h0 h1), if_neg h0, if_neg (not_or.2 ⟨h0, h1⟩)]
    exact ⟨rfl, rfl, rfl⟩

/-- A session on a closed connection has ended as 70_reset_and_hazards.md R213 says. -/
theorem sessionEnded_of_result {t : State} {ps : Params} {o0 o1 o2 : TransportInput} (hc : t.conn = .closed)
    (h : (t.res, t.six) = sessionResult ps o0 o1 o2) : t.SessionEnded := by
  refine ⟨hc, ?_⟩
  by_cases h0 : slotOutcome ps 0 o0 = .err .transportError
  · obtain ⟨hres, -⟩ := Prod.mk.inj (h.trans (sessionResult_of_first h0))
    exact .inr (.inl (by simp [hres, h0]))
  by_cases h1 : slotOutcome ps 1 o1 = .err .transportError
  · obtain ⟨hres, -⟩ := Prod.mk.inj (h.trans (sessionResult_of_second h0 h1))
    exact .inr (.inr (.inl (by simp [hres, h1])))
  obtain ⟨hres, hsix⟩ := Prod.mk.inj (h.trans (sessionResult_of_third h0 h1))
  by_cases h2 : slotOutcome ps 2 o2 = .err .transportError
  · exact .inr (.inr (.inr (by simp [hres, h2])))
  · exact .inl ⟨by rw [hsix, if_neg h2], by simp [hres, h0, h1, h2]⟩

/-! ### The properties of the source -/

/-- The fuel answer, from any response id and whatever its padding, is accepted (43_query_sequencer.md R166 (a)). -/
theorem decodeResponse_fuelAnswer (e : BitVec 3) (d4 d5 d6 d7 : Byte) :
    decodeResponse ⟨0b11111101#8 ++ e, 8, ⟨0x03, 0x41, 0x2F, 0x80, d4, d5, d6, d7⟩⟩ 0x2F =
      .ok ⟨0x41, 0x2F, [0x80]⟩ := by
  have hid : ∀ e : BitVec 3, idOkAt (0b11111101#8 ++ e) = true := by decide
  exact decodeResponse_of_checks (hid e) rfl rfl rfl

theorem decodePid_fuel {ps : Params} (h : ps.valid = true) (a : Byte) (t : List Byte) :
    decodePid ps 0x2F (a :: t) = .ok (.fuelLevelPercent (100 * (a.toNat : Rat) / 255)) := by
  have hk : ps.kindOf 0x2F = some .fuel := kindOf_pidOf h .fuel
  rw [decodePid_of_kind hk, decodeAs, fuelPercent_eq]

/-- Settles O54: the fuel answer is accepted and decoded, a timeout is no `TransportError`, and a frame with another id
is skipped. -/
theorem sourceEndToEnd : Obligations.SourceEndToEnd := by
  refine fun ps hps => ⟨fun e d4 d5 d6 d7 l => ?_, fun p => rfl, fun o1 o2 => ?_, fun p g l hid => ?_⟩
  · rw [queryResult, if_pos rfl, awaitAnswer_of_response (decodeResponse_fuelAnswer e d4 d5 d6 d7), decodePid_fuel hps]
    norm_num [show (0x80 : Byte).toNat = 128 from rfl]
  · obtain ⟨h0, h1, -⟩ := sessionIsolation ps ⟨true, []⟩ o1 o2
    exact ⟨h0, h1⟩
  · exact awaitAnswer_of_skip (classify_of_wrongId (by rw [checks_eq, hid])) l

end Sys2Proof.Machine
end

section
/-! SUPPORT. Proofs about the sequencer's micro steps: what they leave alone, and the transitions of `QST`
(43_query_sequencer.md R150). -/

namespace Sys2Proof.Machine

/-! ### The sequencer's part of the state -/

/-- What the block's commands, the reads and `receive` leave alone: the sequencer's registers, the connection, the
transport's inputs to come, what was sent, what the host issues and the reset inputs. -/
structure Control where
  params : Params
  qst    : QState
  qpid   : Byte
  qout   : Result Reading
  six    : BitVec 2
  res    : Results
  conn   : Conn
  oracle : List TransportInput
  sent   : List CanFrame
  host   : List Act
  rstIn  : List Bool

def State.control (s : State) : Control :=
  ⟨s.params, s.qst, s.qpid, s.qout, s.six, s.res, s.conn, s.oracle, s.sent, s.host, s.rstIn⟩

/-- The block's commands write the block's registers only (10_state.md R36). -/
theorem control_of_sameAround {s t : State} (h : s.SameAround t) : t.control = s.control := by
  obtain ⟨hparams, hqst, hqpid, hqout, hsix, hres, hconn, -, horacle, -, -, hsent, -, -, -, hhost, hrst⟩ := h
  rw [State.control, hparams, hqst, hqpid, hqout, hsix, hres, hconn, horacle, hsent, hhost, hrst, State.control]

theorem control_rdFrm (s : State) : s.rdFrm.control = s.control := by
  unfold State.rdFrm
  split <;> rfl

theorem control_rdRsp (s : State) : s.rdRsp.control = s.control := by
  unfold State.rdRsp
  split <;> rfl

theorem control_rdRdg (s : State) : s.rdRdg.control = s.control := by
  unfold State.rdRdg
  split <;> rfl

theorem control_actCmd {c : CmdCode} {s t : State} (h : actCmd c s = .next t) : t.control = s.control := by
  rw [actCmd_eq] at h
  have hs : (s.writeCmd c).SameAround t := rowsLeaveAround _ _ _ h
  exact control_of_sameAround hs

theorem control_actFrame {w : FrameWord} {s t : State} (h : actFrame w s = .next t) : t.control = s.control := by
  rcases actFrame_cases w s with ⟨b, hb⟩ | ⟨f, hf⟩ | ⟨f, hf⟩
  · rw [hb] at h; cases h; exact control_of_sameAround (sameAround_buildRequest s b)
  · rw [hf] at h; cases h; exact control_of_sameAround (sameAround_recognise s f)
  · rw [hf] at h; cases h; exact control_of_sameAround (sameAround_interpret s f)

theorem control_endQuery (s : State) (r : Result Reading) :
    (s.endQuery r).control = { s.control with qst := endState r, qout := r } := by
  cases r <;> rfl

/-! ### The transitions of `QST` -/

theorem mayBecome_of_eq {q q' : QState} (h : q' = q) : q.MayBecome q' := by
  subst h
  cases q' <;> exact rfl

theorem mayBecome_of_control {s t : State} (h : t.control = s.control) : s.qst.MayBecome t.qst :=
  mayBecome_of_eq (congrArg Control.qst h)

theorem awaiting_mayBecome_endState (r : Result Reading) : QState.awaitingResponse.MayBecome (endState r) := by
  cases r <;> trivial

/-- A query in progress may end in any outcome (43_query_sequencer.md R150). -/
theorem mayBecome_endQuery {s : State} (h : s.qst = .awaitingResponse) (r : Result Reading) :
    s.qst.MayBecome (s.endQuery r).qst := by
  rw [h, endQuery_qst_eq]
  exact awaiting_mayBecome_endState r

theorem mayBecome_of_qoutDefined {s : State} (h : s.qoutDefined = true) : s.qst.MayBecome .idle := by
  cases hq : s.qst <;> simp_all [State.qoutDefined, QState.MayBecome]

theorem afterQuery_qst (s : State) (k : Fin 3) : (s.afterQuery k).qst = s.qst := by
  unfold State.afterQuery
  split
  · rfl
  · split <;> rfl

theorem actSend_mayBecome {s t : State} (h : actSend s = .next t) : s.qst.MayBecome t.qst := by
  obtain ⟨g, rfl⟩ := sendThen_next h
  exact mayBecome_of_eq (by rw [transportSend_frame])

theorem actRecv_mayBecome {s t : State} (h : actRecv s = .next t) : s.qst.MayBecome t.qst := by
  unfold actRecv at h
  split at h
  · cases h
  · cases h; exact mayBecome_of_eq rfl

theorem actQuery_mayBecome {p : Byte} {s t : State} (h : actQuery p s = .next t) : s.qst.MayBecome t.qst := by
  unfold actQuery at h
  split at h
  · cases h
  · cases h; exact mayBecome_of_eq rfl
  · cases h

theorem actRdQpid_mayBecome {s t : State} (h : actRdQpid s = .next t) : s.qst.MayBecome t.qst := by
  unfold actRdQpid at h
  split at h
  · cases h
  · cases h; exact mayBecome_of_eq rfl

theorem actTakeOutcome_mayBecome {s t : State} (h : actTakeOutcome s = .next t) : s.qst.MayBecome t.qst := by
  unfold actTakeOutcome at h
  split at h
  next hd => cases h; exact mayBecome_of_qoutDefined hd
  next => cases h

theorem actSeqSend_mayBecome {s t : State} (h : actSeqSend s = .next t) : s.qst.MayBecome t.qst := by
  unfold actSeqSend at h
  split at h
  next hq =>
    obtain ⟨g, rfl⟩ := sendThen_next h
    rw [hq]
    split <;> trivial
  next => cases h

theorem actSeqReceive_mayBecome {s t : State} (h : actSeqReceive s = .next t) : s.qst.MayBecome t.qst := by
  unfold actSeqReceive at h
  split at h
  next => cases h
  next hq =>
    split at h
    · cases h; exact mayBecome_endQuery (s := s.transportReceive) hq _
    · cases h; exact mayBecome_endQuery (s := s.transportReceive) hq _
    · cases h; exact mayBecome_of_eq rfl
  next => cases h

theorem actSeqClassify_mayBecome {s t : State} (h : actSeqClassify s = .next t) : s.qst.MayBecome t.qst := by
  unfold actSeqClassify at h
  split at h
  next hq _ =>
    split at h
    · cases h; exact mayBecome_of_eq rfl
    · cases h; exact mayBecome_endQuery hq _
    · cases h; exact mayBecome_of_eq rfl
  next => cases h
  next => cases h

theorem actSeqReading_mayBecome {s t : State} (h : actSeqReading s = .next t) : s.qst.MayBecome t.qst := by
  unfold actSeqReading at h
  split at h
  next hq _ =>
    split at h
    · cases h; exact mayBecome_endQuery hq _
    · cases h
  next => cases h; exact mayBecome_of_eq rfl
  next => cases h
  next => cases h

theorem actSeqFinish_mayBecome {s t : State} (h : actSeqFinish s = .next t) : s.qst.MayBecome t.qst := by
  unfold actSeqFinish at h
  split at h
  next hq _ =>
    split at h
    · cases h; exact mayBecome_endQuery hq _
    · cases h
  next => cases h
  next => cases h

theorem actSessionOpen_mayBecome {s t : State} (h : actSessionOpen s = .next t) : s.qst.MayBecome t.qst := by
  have hq : s.openConnection.qst = s.qst := by rw [openConnection_frame]
  unfold actSessionOpen at h
  split at h
  · cases h; exact mayBecome_of_eq hq
  · cases h; exact mayBecome_of_eq hq

theorem actSessionStore_mayBecome {k : Fin 3} {s t : State} (h : actSessionStore k s = .next t) :
    s.qst.MayBecome t.qst := by
  unfold actSessionStore at h
  split at h
  next hd => cases h; rw [afterQuery_qst]; exact mayBecome_of_qoutDefined hd
  next => cases h

/-- The sequencer's own steps and the taking of an outcome walk `QST`; every other act leaves it where it is. -/
theorem runAct_mayBecome {a : Act} {s t : State} (h : runAct a s = .next t) : s.qst.MayBecome t.qst := by
  cases a with
  | cmd c => exact mayBecome_of_control (control_actCmd h)
  | frame w => exact mayBecome_of_control (control_actFrame h)
  | rdfrm => cases h; exact mayBecome_of_control (control_rdFrm s)
  | rdrsp => cases h; exact mayBecome_of_control (control_rdRsp s)
  | rdrdg => cases h; exact mayBecome_of_control (control_rdRdg s)
  | rdqpid => exact actRdQpid_mayBecome h
  | send => exact actSend_mayBecome h
  | recv => exact actRecv_mayBecome h
  | openConn => cases h; exact mayBecome_of_eq (by rw [openConnection_frame])
  | decodePid p bs =>
    simp only [runAct] at h
    split at h
    · cases h; exact mayBecome_of_eq rfl
    · cases h
  | query p => exact actQuery_mayBecome h
  | takeOutcome => exact actTakeOutcome_mayBecome h
  | seqSend => exact actSeqSend_mayBecome h
  | seqReceive => exact actSeqReceive_mayBecome h
  | seqClassify => exact actSeqClassify_mayBecome h
  | seqReading => exact actSeqReading_mayBecome h
  | seqFinish => exact actSeqFinish_mayBecome h
  | sessionOpen => exact actSessionOpen_mayBecome h
  | sessionStore k => exact actSessionStore_mayBecome h
  | ldpid | ldfrm | rdstat | rdcmd | wrstat | rdres | arrive | closeConn | encodeRequest | decodeResponse | session
  | sessionQuery => cases h; exact mayBecome_of_eq rfl

/-- Settles O9: passing the step boundary leaves `QST`, and each act moves it along a listed transition. -/
theorem queryTransitions : Obligations.QueryTransitions := by
  intro s t hr h
  cases ha : s.nextAct with
  | none => rw [step_of_none hr ha] at h; cases h; exact mayBecome_of_eq rfl
  | some a =>
    have hq := runAct_mayBecome (step_next_act hr ha h)
    rwa [popAct_frame] at hq

end Sys2Proof.Machine
end

section
/-! SUPPORT. Proofs about runs of the sequencer: the receive loop of a query ends in the outcome of `Await`
(43_query_sequencer.md R153 to R158). -/

namespace Sys2Proof.Machine

open Relation (ReflTransGen)

/-! ### Runs -/

/-- One step that answers a next state. -/
def StepsTo (s t : State) : Prop := step s = .next t

/-- Finitely many steps. -/
abbrev Reaches : State → State → Prop := ReflTransGen StepsTo

theorem run_succ_of_step {s t : Sys2Proof.core.State} (h : Sys2Proof.core.step s = .next t) (n : Nat) :
    Sys2Proof.core.run (n + 1) s = Sys2Proof.core.run n t := by
  rw [Host.Core.run, h]

theorem exists_run_of_reaches {s t : State} (h : Reaches s t) : ∃ n, Host.Core.run Sys2Proof.core n s = .next t := by
  induction h using ReflTransGen.head_induction_on with
  | refl => exact ⟨0, rfl⟩
  | head hstep _ ih =>
    obtain ⟨n, hn⟩ := ih
    exact ⟨n + 1, (run_succ_of_step hstep n).trans hn⟩

/-- The state with these micro steps pending. -/
def State.doing (s : State) (as : List Act) : State := { s with seq := as }

theorem step_doing {s : State} (hr : s.rstIn = []) (a : Act) (as : List Act) :
    step (s.doing (a :: as)) = runAct a (s.doing as) :=
  step_seq (s := s.doing (a :: as)) hr rfl

theorem reaches_of_act {s u : State} {a : Act} {as : List Act} (hr : s.rstIn = [])
    (h : runAct a (s.doing as) = .next u) : Reaches (s.doing (a :: as)) u :=
  .single ((step_doing hr a as).trans h)

theorem reaches_of_host {s u : State} {a : Act} {h : List Act} (hr : s.rstIn = []) (hs : s.seq = [])
    (hh : s.host = a :: h) (hm : a.isMicro = false) (hu : runAct a { s with host := h } = .next u) : Reaches s u :=
  .single ((step_host hr hs hh hm).trans hu)

/-! ### The block's commands look at no pending micro step -/

theorem endQuery_doing (s : State) (as : List Act) (r : Result Reading) :
    (s.doing as).endQuery r = (s.endQuery r).doing as := by
  cases r <;> rfl

theorem buildRequest_doing (s : State) (as : List Act) (p : Byte) :
    (s.doing as).buildRequest p = (s.buildRequest p).doing as := by
  rw [buildRequest_eq, buildRequest_eq]; rfl

theorem runDecf_doing (s : State) (as : List Act) : (s.doing as).runDecf = s.runDecf.doing as := by
  rcases runDecf_cases s with
    ⟨hfv, hpv, f, r, hc, hd, h⟩ | ⟨hfv, hpv, f, k, hc, hk, h⟩ | ⟨hfv, hpv, hc, h⟩ | ⟨hv, h⟩ <;> rw [h]
  · exact runDecf_of_response (s := s.doing as) hfv hpv hc hd
  · exact runDecf_of_failure (s := s.doing as) hfv hpv hc hk
  · exact runDecf_of_oversize (s := s.doing as) hfv hpv hc
  · exact runDecf_of_invalid (s := s.doing as) hv

theorem runDecp_doing (s : State) (as : List Act) : (s.doing as).runDecp = s.runDecp.doing as := by
  rcases runDecp_cases s with ⟨hrv, v, hv, h⟩ | ⟨hrv, e, he, h⟩ | ⟨hrv, h⟩ <;> rw [h]
  · exact runDecp_of_reading (s := s.doing as) hrv hv
  · exact runDecp_of_error (s := s.doing as) hrv he
  · exact runDecp_of_invalid (s := s.doing as) hrv

theorem recognise_doing (s : State) (as : List Act) (f : Frame) :
    (s.doing as).recognise f = (s.recognise f).doing as :=
  runDecf_doing ((s.ldFrm f).writeCmd 2) as

/-! ### The end of a query -/

/-- From `s` the micro steps `todo` bring the query to its end with outcome `r`, `as` being still to do, and leave the
rest of the sequencer's part as it was. -/
def State.Ends (s : State) (todo as : List Act) (r : Result Reading) : Prop :=
  ∃ t : State, Reaches (s.doing todo) (t.doing as) ∧ t.control = { s.control with qst := endState r, qout := r }

theorem ends_of_act {s u : State} {a : Act} {as : List Act} {r : Result Reading} (hr : s.rstIn = [])
    (hu : u.control = s.control) (h : runAct a (s.doing as) = .next ((u.doing as).endQuery r)) :
    s.Ends (a :: as) as r := by
  rw [endQuery_doing] at h
  exact ⟨u.endQuery r, reaches_of_act hr h, by rw [control_endQuery, hu]⟩

theorem ends_of_reaches {s u : State} {todo todo' as : List Act} {r : Result Reading} (hu : u.control = s.control)
    (h : Reaches (s.doing todo) (u.doing todo')) (he : u.Ends todo' as r) : s.Ends todo as r := by
  obtain ⟨t, ht, hc⟩ := he
  exact ⟨t, h.trans ht, by rw [hc, hu]⟩

/-! ### What the sequencer makes of an accepted frame (43_query_sequencer.md R156) -/

theorem runAct_seqReading_of_reading {s : State} {g : RdgGroup} {v : Reading} (hq : s.qst = .awaitingResponse)
    (ha : s.answer = .reading g) (hv : g.reading? = some v) : runAct .seqReading s = .next (s.endQuery (.ok v)) := by
  simp [runAct, actSeqReading, hq, ha, hv]

theorem runAct_seqReading_of_error {s : State} (hq : s.qst = .awaitingResponse)
    (ha : s.answer = .error .operandInvalid) : runAct .seqReading s = .next (s.push [.rdstat, .seqFinish]) := by
  simp [runAct, actSeqReading, hq, ha]

theorem runAct_seqFinish {s : State} {v : StatWord} {e : Error} (hq : s.qst = .awaitingResponse)
    (ha : s.answer = .status v) (he : errorOfStat v = some e) :
    runAct .seqFinish s = .next (s.endQuery (.err e)) := by
  simp [runAct, actSeqFinish, hq, ha, he]

/-- `DECP ; RDRDG` (30_encoding.md R83). -/
def State.readOut (s : State) : State := (s.writeCmd 3).runDecp.rdRdg

theorem control_readOut (s : State) : s.readOut.control = s.control :=
  (control_rdRdg _).trans (control_of_sameAround (sameAround_runDecp _))

theorem reaches_readOut {s : State} (hr : s.rstIn = []) (as : List Act) :
    Reaches (s.doing (.cmd 3 :: .rdrdg :: as)) (s.readOut.doing as) := by
  have hdecp : runAct (.cmd 3) (s.doing (.rdrdg :: as)) = .next ((s.writeCmd 3).runDecp.doing (.rdrdg :: as)) := by
    rw [← runDecp_doing]
    exact actCmd_eq 3 _
  have hr' : (s.writeCmd 3).runDecp.rstIn = [] := by rw [runDecp_frame]; exact hr
  have hrd : runAct .rdrdg ((s.writeCmd 3).runDecp.doing as) = .next (s.readOut.doing as) := by
    cases hdv : (s.writeCmd 3).runDecp.dv with
    | true =>
      rw [State.readOut, rdRdg_of_valid hdv]
      exact congrArg _ (rdRdg_of_valid (s := (s.writeCmd 3).runDecp.doing as) hdv)
    | false =>
      rw [State.readOut, rdRdg_of_invalid hdv]
      exact congrArg _ (rdRdg_of_invalid (s := (s.writeCmd 3).runDecp.doing as) hdv)
  exact (reaches_of_act hr hdecp).trans (reaches_of_act hr' hrd)

/-- From a valid `RSP` the micro steps after acceptance end in what the PID Decoder makes of it. -/
theorem ends_reading {s : State} (hr : s.rstIn = []) (hq : s.qst = .awaitingResponse) (hrv : s.rv = true)
    (as : List Act) :
    s.Ends (.cmd 3 :: .rdrdg :: .seqReading :: as) as (decodePid s.params s.rsp.pid s.rsp.payload) := by
  have hc : s.readOut.control = s.control := control_readOut s
  have hr' : s.readOut.rstIn = [] := (congrArg Control.rstIn hc).trans hr
  have hq' : s.readOut.qst = .awaitingResponse := (congrArg Control.qst hc).trans hq
  refine ends_of_reaches hc (reaches_readOut hr _) ?_
  cases hd : decodePid s.params s.rsp.pid s.rsp.payload with
  | ok v =>
    have hans : s.readOut.answer = .reading (.ofReading v s.rsp.pl.pl0) := by
      rw [State.readOut, runDecp_of_reading (s := s.writeCmd 3) hrv hd, rdRdg_of_valid rfl]; rfl
    exact ends_of_act hr' rfl (runAct_seqReading_of_reading hq' hans (reading?_of_decodePid hd))
  | err e =>
    have hrun : s.readOut = { (s.writeCmd 3).raise .decp noFlags e with answer := .error .operandInvalid } := by
      rw [State.readOut, runDecp_of_error (s := s.writeCmd 3) hrv hd, rdRdg_of_invalid rfl]
    have hans : s.readOut.answer = .error .operandInvalid := by rw [hrun]
    have hstat : errorOfStat s.readOut.stat = some e := by rw [hrun]; exact errorOfStat_statErr _ _ _
    have hpush : Reaches (s.readOut.doing (.seqReading :: as)) (s.readOut.doing (.rdstat :: .seqFinish :: as)) :=
      reaches_of_act hr' (runAct_seqReading_of_error hq' hans)
    have hrdstat : Reaches (s.readOut.doing (.rdstat :: .seqFinish :: as))
        (s.readOut.rdStat.doing (.seqFinish :: as)) := reaches_of_act hr' rfl
    exact ends_of_reaches (u := s.readOut.rdStat) rfl (hpush.trans hrdstat)
      (ends_of_act hr' rfl (runAct_seqFinish hq' rfl hstat))

/-! ### The receive loop (43_query_sequencer.md R153 to R158) -/

/-- The sequencer waits for the answer to its query for `p`. -/
structure State.Awaits (s : State) (p : Byte) : Prop where
  rstIn : s.rstIn = []
  conn  : s.conn = .opened
  qst   : s.qst = .awaitingResponse
  pv    : s.pv = true
  pidr  : s.pidr = p

section

variable {s : State} {p : Byte} {g : CanFrame} {l : List RxEvent}

theorem awaits_doing (h : s.Awaits p) (as : List Act) : (s.doing as).Awaits p :=
  ⟨h.rstIn, h.conn, h.qst, h.pv, h.pidr⟩

theorem runAct_seqReceive_of_nil (h : s.Awaits p) (hl : s.rxq = []) :
    runAct .seqReceive s = .next (s.transportReceive.endQuery (.err .timeoutError)) := by
  simp [runAct, actSeqReceive, State.nextRx, h.conn, h.qst, hl]

theorem runAct_seqReceive_of_failure (h : s.Awaits p) (hl : s.rxq = .failure :: l) :
    runAct .seqReceive s = .next (s.transportReceive.endQuery (.err .transportError)) := by
  simp [runAct, actSeqReceive, State.nextRx, h.conn, h.qst, hl]

theorem runAct_seqReceive_of_frame (h : s.Awaits p) (hl : s.rxq = .frame g :: l) :
    runAct .seqReceive s =
      .next (s.transportReceive.push [.ldfrm (CanFrame.toFrame g), .cmd 2, .rdstat, .seqClassify]) := by
  simp [runAct, actSeqReceive, State.nextRx, h.conn, h.qst, hl]

theorem runAct_seqClassify_of_skip {v : StatWord} (hq : s.qst = .awaitingResponse) (ha : s.answer = .status v)
    (hv : classify (flagsOfStat v) = .skip) : runAct .seqClassify s = .next (s.push [.seqReceive]) := by
  simp [runAct, actSeqClassify, hq, ha, hv]

theorem runAct_seqClassify_of_fail {v : StatWord} {k : CheckKind} (hq : s.qst = .awaitingResponse)
    (ha : s.answer = .status v) (hv : classify (flagsOfStat v) = .fail k) :
    runAct .seqClassify s = .next (s.endQuery (.err (.protocolError k))) := by
  simp [runAct, actSeqClassify, hq, ha, hv]

theorem runAct_seqClassify_of_accept {v : StatWord} (hq : s.qst = .awaitingResponse) (ha : s.answer = .status v)
    (hv : classify (flagsOfStat v) = .accept) :
    runAct .seqClassify s = .next (s.push [.cmd 3, .rdrdg, .seqReading]) := by
  simp [runAct, actSeqClassify, hq, ha, hv]

/-- A frame received and decoded, and its status read: `receive ; LDFRM ; DECF ; RDSTAT`. -/
def State.examine (s : State) (g : CanFrame) : State := (s.transportReceive.recognise (CanFrame.toFrame g)).rdStat

theorem control_examine (s : State) (g : CanFrame) : (s.examine g).control = s.control := by
  have h := control_of_sameAround (sameAround_recognise s.transportReceive (CanFrame.toFrame g))
  exact h

theorem examine_rxq (s : State) (g : CanFrame) : (s.examine g).rxq = s.rxq.tail := by
  rw [State.examine, recognise_frame]; rfl

theorem awaits_examine (h : s.Awaits p) (g : CanFrame) : (s.examine g).Awaits p := by
  have hc := control_examine s g
  refine ⟨(congrArg Control.rstIn hc).trans h.rstIn, (congrArg Control.conn hc).trans h.conn,
    (congrArg Control.qst hc).trans h.qst, ?_, ?_⟩
  · rw [State.examine, recognise_frame]; exact h.pv
  · rw [State.examine, recognise_frame]; exact h.pidr

theorem reaches_examine (h : s.Awaits p) (hl : s.rxq = .frame g :: l) (as : List Act) :
    Reaches (s.doing (.seqReceive :: as)) ((s.examine g).doing (.seqClassify :: as)) := by
  let f := CanFrame.toFrame g
  let u := s.transportReceive
  have hreceive : Reaches (s.doing (.seqReceive :: as))
      (u.doing (.ldfrm f :: .cmd 2 :: .rdstat :: .seqClassify :: as)) :=
    reaches_of_act h.rstIn (runAct_seqReceive_of_frame (awaits_doing h as) hl)
  have hldfrm : Reaches (u.doing (.ldfrm f :: .cmd 2 :: .rdstat :: .seqClassify :: as))
      ((u.ldFrm f).doing (.cmd 2 :: .rdstat :: .seqClassify :: as)) := reaches_of_act h.rstIn rfl
  have hdecf : Reaches ((u.ldFrm f).doing (.cmd 2 :: .rdstat :: .seqClassify :: as))
      ((u.recognise f).doing (.rdstat :: .seqClassify :: as)) := by
    refine reaches_of_act h.rstIn ?_
    rw [← recognise_doing]
    exact actCmd_eq 2 _
  have hrdstat : Reaches ((u.recognise f).doing (.rdstat :: .seqClassify :: as))
      ((s.examine g).doing (.seqClassify :: as)) := reaches_of_act (awaits_examine h g).rstIn rfl
  exact ((hreceive.trans hldfrm).trans hdecf).trans hrdstat

/-- The status read holds the four checks of the frame (43_query_sequencer.md R155). -/
theorem examine_flags (h : s.Awaits p) (g : CanFrame) :
    ∃ v, (s.examine g).answer = .status v ∧ flagsOfStat v = checks g p := by
  obtain ⟨hflags, -⟩ := runDecf_flags (s := (s.transportReceive.ldFrm (CanFrame.toFrame g)).writeCmd 2) rfl h.pv rfl
  exact ⟨_, rfl, h.pidr ▸ hflags⟩

/-- A frame that has a response leaves it in `RSP` (41_frame_decode.md R116). -/
theorem examine_response (h : s.Awaits p) {r : ObdResponse} (hd : decodeResponse g p = .ok r) :
    (s.examine g).rv = true ∧ (s.examine g).rsp.pid = r.pid ∧ (s.examine g).rsp.payload = r.payload := by
  obtain ⟨-, hput⟩ := runDecf_flags (s := (s.transportReceive.ldFrm (CanFrame.toFrame g)).writeCmd 2) rfl h.pv rfl
  obtain ⟨-, -, -, hlen⟩ := decodeResponse_ok_facts hd
  rw [State.examine, State.recognise, hput r (h.pidr ▸ hd)]
  exact ⟨rfl, rfl, write_payload hlen⟩

/-- The receive loop ends in the outcome of `Await` on the events in `RXQ`: each frame is classified as `Await` does,
and the loop goes on after a skipped one only. -/
theorem ends_receive (l : List RxEvent) {s : State} (h : s.Awaits p) (hl : s.rxq = l) (as : List Act) :
    s.Ends (.seqReceive :: as) as (awaitAnswer s.params p l) := by
  induction l generalizing s with
  | nil => exact ends_of_act (u := s.transportReceive) h.rstIn rfl (runAct_seqReceive_of_nil (awaits_doing h as) hl)
  | cons e l ih =>
    cases e with
    | failure =>
      exact ends_of_act (u := s.transportReceive) h.rstIn rfl (runAct_seqReceive_of_failure (awaits_doing h as) hl)
    | frame g =>
      have hu := awaits_examine h g
      have hc := control_examine s g
      have hparams : (s.examine g).params = s.params := congrArg Control.params hc
      obtain ⟨v, hans, hflags⟩ := examine_flags h g
      refine ends_of_reaches hc (reaches_examine h hl as) ?_
      cases hv : classify (checks g p) with
      | skip =>
        rw [awaitAnswer_of_skip hv, ← hparams]
        have hskip := runAct_seqClassify_of_skip (s := (s.examine g).doing as) hu.qst hans (hflags ▸ hv)
        exact ends_of_reaches rfl (reaches_of_act hu.rstIn hskip) (ih hu (by rw [examine_rxq, hl]; rfl))
      | fail k =>
        rw [awaitAnswer_of_fail hv]
        exact ends_of_act hu.rstIn rfl (runAct_seqClassify_of_fail hu.qst hans (hflags ▸ hv))
      | accept =>
        obtain ⟨r, hr⟩ := exists_response_of_accept hv
        obtain ⟨hrv, hpid, hpl⟩ := examine_response h hr
        rw [awaitAnswer_of_response hr, ← hparams, ← hpid, ← hpl]
        have haccept := runAct_seqClassify_of_accept (s := (s.examine g).doing as) hu.qst hans (hflags ▸ hv)
        exact ends_of_reaches rfl (reaches_of_act hu.rstIn haccept) (ends_reading hu.rstIn hu.qst hrv as)

end

end Sys2Proof.Machine
end

section
/-! SUPPORT. Proofs about a whole query: from its start its micro steps send the one request and end in the outcome
(43_query_sequencer.md R151, R154). -/

namespace Sys2Proof.Machine

/-! ### The send (43_query_sequencer.md R151) -/

/-- The request a query for `p` sends (40_frame_encode.md R100). -/
def requestOf (ps : Params) (p : Byte) : CanFrame :=
  ⟨0x7DF, 8, ⟨0x02, 0x01, p, ps.pad, ps.pad, ps.pad, ps.pad, ps.pad⟩⟩

theorem toCanFrame?_requestFrame (ps : Params) (p : Byte) : toCanFrame? (requestFrame ps p) = some (requestOf ps p) :=
  toCanFrame?_of_dlc (f := requestFrame ps p) (show (8 : BitVec 4).toNat < 9 by decide)

/-- The request of `p` built and read by `RDFRM` (30_encoding.md R83). -/
def State.prepare (s : State) (p : Byte) : State := (s.buildRequest p).rdFrm

theorem prepare_eq (s : State) (p : Byte) :
    s.prepare p =
      { s with pidr := p, pv := true, frm := requestFrame s.params p, fv := true, rv := false, dv := false, cmd := 1,
               stat := 0x200, answer := .frame (requestFrame s.params p),
               lastFrame := some (requestFrame s.params p) } := by
  rw [State.prepare, buildRequest_eq]; rfl

theorem reaches_prepare {s : State} (hr : s.rstIn = []) (p : Byte) (as : List Act) :
    Reaches (s.doing (.ldpid p :: .cmd 1 :: .rdfrm :: as)) ((s.prepare p).doing as) := by
  have hldpid : Reaches (s.doing (.ldpid p :: .cmd 1 :: .rdfrm :: as)) ((s.ldPid p).doing (.cmd 1 :: .rdfrm :: as)) :=
    reaches_of_act hr rfl
  have henc : Reaches ((s.ldPid p).doing (.cmd 1 :: .rdfrm :: as)) ((s.buildRequest p).doing (.rdfrm :: as)) := by
    refine reaches_of_act hr ?_
    rw [← buildRequest_doing]
    exact actCmd_eq 1 _
  have hrdfrm : Reaches ((s.buildRequest p).doing (.rdfrm :: as)) ((s.prepare p).doing as) := by
    rw [State.prepare, buildRequest_eq]
    exact reaches_of_act hr rfl
  exact (hldpid.trans henc).trans hrdfrm

section

variable {s : State} {o : TransportInput} {os : List TransportInput} {ps : Params} {p : Byte}

theorem runAct_seqSend_of_ok (hc : s.conn = .opened) (hq : s.qst = .idle) (ho : s.oracle = o :: os)
    (hl : s.lastFrame = some (requestFrame ps p)) (hok : o.sendOk = true) :
    runAct .seqSend s =
      .next (State.push { s with oracle := os, sent := s.sent ++ [requestOf ps p], rxq := o.events,
                                 answer := .sent true, qst := .awaitingResponse } [.seqReceive]) := by
  simp [runAct, actSeqSend, sendThen, State.transportSend, State.nextInput, State.dropInput, toCanFrame?_requestFrame,
    hc, hq, ho, hl, hok]

theorem runAct_seqSend_of_fail (hc : s.conn = .opened) (hq : s.qst = .idle) (ho : s.oracle = o :: os)
    (hl : s.lastFrame = some (requestFrame ps p)) (hok : o.sendOk = false) :
    runAct .seqSend s =
      .next (State.endQuery { s with oracle := os, answer := .sent false } (.err .transportError)) := by
  simp [runAct, actSeqSend, sendThen, State.transportSend, State.nextInput, State.dropInput, toCanFrame?_requestFrame,
    hc, hq, ho, hl, hok]

end

/-! ### A query -/

/-- A query can be started, and its send takes the first of the inputs to come. -/
structure State.Ready (s : State) (o : TransportInput) (os : List TransportInput) : Prop where
  rstIn  : s.rstIn = []
  conn   : s.conn = .opened
  qst    : s.qst = .idle
  oracle : s.oracle = o :: os

/-- The sequencer's part after a query for `p` whose send took the input `o` and left `os` (43_query_sequencer.md
R154). -/
def Control.queried (c : Control) (p : Byte) (o : TransportInput) (os : List TransportInput) : Control :=
  { c with qst := endState (queryResult c.params p o), qpid := p, qout := queryResult c.params p o, oracle := os,
           sent := c.sent ++ if o.sendOk then [requestOf c.params p] else [] }

theorem queried_of_ok {c : Control} {p : Byte} {o : TransportInput} {os : List TransportInput} (h : o.sendOk = true) :
    c.queried p o os =
      { c with qst := endState (awaitAnswer c.params p o.events), qpid := p, qout := awaitAnswer c.params p o.events,
               oracle := os, sent := c.sent ++ [requestOf c.params p] } := by
  simp [Control.queried, queryResult, h]

theorem queried_of_fail {c : Control} {p : Byte} {o : TransportInput} {os : List TransportInput}
    (h : o.sendOk = false) :
    c.queried p o os =
      { c with qst := .failed, qpid := p, qout := .err .transportError, oracle := os } := by
  simp [Control.queried, queryResult, endState, h]

section

variable {s : State} {o : TransportInput} {os : List TransportInput} {p : Byte}

theorem ready_doing (h : s.Ready o os) (as : List Act) : (s.doing as).Ready o os :=
  ⟨h.rstIn, h.conn, h.qst, h.oracle⟩

theorem runAct_query (h : s.Ready o os) (p : Byte) :
    runAct (.query p) s = .next (State.push { s with qpid := p } [.ldpid p, .cmd 1, .rdfrm, .seqSend]) := by
  simp [runAct, actQuery, h.conn, h.qst]

/-- The send ends the query when it fails, and the receive loop on the events of its input does when it succeeds. -/
theorem reaches_queried_of_seqSend (h : s.Ready o os) (hpv : s.pv = true) (hpidr : s.pidr = p)
    (hl : s.lastFrame = some (requestFrame s.params p)) (as : List Act) :
    ∃ t : State, Reaches (s.doing (.seqSend :: as)) (t.doing as) ∧
      t.control = { s.control.queried p o os with qpid := s.qpid } := by
  cases hok : o.sendOk with
  | false =>
    let u : State := { s with oracle := os, answer := .sent false }
    have hsend : runAct .seqSend (s.doing as) = .next ((u.endQuery (.err .transportError)).doing as) :=
      runAct_seqSend_of_fail (s := s.doing as) h.conn h.qst h.oracle hl hok
    exact ⟨_, reaches_of_act h.rstIn hsend, by rw [queried_of_fail hok]; rfl⟩
  | true =>
    let u : State := { s with oracle := os, sent := s.sent ++ [requestOf s.params p], rxq := o.events,
                              answer := .sent true, qst := .awaitingResponse }
    have hsend : runAct .seqSend (s.doing as) = .next (u.doing (.seqReceive :: as)) :=
      runAct_seqSend_of_ok (s := s.doing as) h.conn h.qst h.oracle hl hok
    have hu : u.Awaits p := ⟨h.rstIn, h.conn, rfl, hpv, hpidr⟩
    obtain ⟨t, ht, hc⟩ := ends_receive o.events hu rfl as
    rw [queried_of_ok hok]
    exact ⟨t, (reaches_of_act h.rstIn hsend).trans ht, hc⟩

/-- A query that has been started builds its request, sends it and ends in its outcome. -/
theorem reaches_queried (h : s.Ready o os) (p : Byte) (as : List Act) :
    ∃ t : State,
      Reaches (State.doing { s with qpid := p } (.ldpid p :: .cmd 1 :: .rdfrm :: .seqSend :: as)) (t.doing as) ∧
        t.control = s.control.queried p o os := by
  have hu := prepare_eq { s with qpid := p } p
  obtain ⟨t, ht, hc⟩ := reaches_queried_of_seqSend (s := State.prepare { s with qpid := p } p) (o := o) (os := os)
    (by rw [hu]; exact ⟨h.rstIn, h.conn, h.qst, h.oracle⟩) (by rw [hu]) (by rw [hu]) (by rw [hu]) as
  refine ⟨t, (reaches_prepare (s := { s with qpid := p }) h.rstIn p _).trans ht, ?_⟩
  rw [hc, hu]
  rfl

end

/-- Settles O57: the query starts at the host's step, and what it leaves is `Control.queried`. -/
theorem queryRefines : Obligations.QueryRefines := by
  intro s p o os h hr hs hh hc hq ho
  have hready : State.Ready { s with host := h } o os := ⟨hr, hc, hq, ho⟩
  have hstart := reaches_of_host hr hs hh rfl (runAct_query hready p)
  obtain ⟨t, ht, hcontrol⟩ := reaches_queried hready p []
  rw [State.push, hs] at hstart
  obtain ⟨n, hn⟩ := exists_run_of_reaches (hstart.trans ht)
  exact ⟨n, t.doing [], hn, congrArg Control.qout hcontrol, congrArg Control.qst hcontrol,
    congrArg Control.qpid hcontrol, rfl, congrArg Control.host hcontrol, congrArg Control.oracle hcontrol,
    (congrArg Control.conn hcontrol).trans hc, congrArg Control.params hcontrol, congrArg Control.res hcontrol,
    congrArg Control.six hcontrol, congrArg Control.sent hcontrol⟩

end Sys2Proof.Machine
end

section
/-! SUPPORT. Proofs about a session: its micro steps end in the session's results (43_query_sequencer.md R161 to R164).
-/

namespace Sys2Proof.Machine

/-! ### The open -/

theorem openConnection_of_ok {s : State} {q : List RxEvent} {bs : List OpenInput} (h : s.opens = ⟨true, q⟩ :: bs) :
    s.openConnection = { s with opens := bs, conn := .opened, rxq := q } := by
  simp [State.openConnection, State.nextOpen, State.dropOpen, h]

theorem openConnection_of_fail {s : State} {q : List RxEvent} {bs : List OpenInput} (h : s.opens = ⟨false, q⟩ :: bs) :
    s.openConnection = { s with opens := bs, conn := .closed, answer := .error .transportError } := by
  simp [State.openConnection, State.nextOpen, State.dropOpen, h]

theorem runAct_sessionOpen_of_ok {s : State} {q : List RxEvent} {bs : List OpenInput} (h : s.opens = ⟨true, q⟩ :: bs) :
    runAct .sessionOpen s =
      .next (State.push { s with opens := bs, conn := .opened, rxq := q } [.sessionQuery 0]) := by
  simp [runAct, actSessionOpen, State.nextOpen, openConnection_of_ok h, h]

theorem runAct_sessionOpen_of_fail {s : State} {q : List RxEvent} {bs : List OpenInput}
    (h : s.opens = ⟨false, q⟩ :: bs) :
    runAct .sessionOpen s = .next { s with opens := bs, conn := .closed, answer := .error .transportError } := by
  simp [runAct, actSessionOpen, State.nextOpen, openConnection_of_fail h, h]

/-- `SESSION` clears the slots and goes on to open the connection. -/
theorem step_session {s : State} {h : List Act} (hr : s.rstIn = []) (hs : s.seq = []) (hh : s.host = .session :: h) :
    step s = .next (State.doing { s with host := h, res := noResults } [.sessionOpen]) := by
  rw [step_host hr hs hh rfl, runAct, actSession, State.push, hs]
  rfl

/-- Settles O59: the host's step and the open that fails. -/
theorem sessionOpenFails : Obligations.SessionOpenFails := by
  intro s q bs h hr hs hh ho
  let u : State := { s with host := h, res := noResults }
  have hopen : step (u.doing [.sessionOpen]) =
      .next { u.doing [] with opens := bs, conn := .closed, answer := .error .transportError } :=
    (step_doing (s := u) hr _ _).trans (runAct_sessionOpen_of_fail (s := u.doing []) ho)
  refine (run_succ_of_step (step_session hr hs hh) 1).trans ((run_succ_of_step hopen 0).trans ?_)
  simp [Host.Core.run, State.doing, u, hs, noResults]

/-! ### One slot -/

/-- The sequencer's part after a session's k-th query and the storing of its result (43_query_sequencer.md R161). -/
def Control.slotFilled (c : Control) (k : Fin 3) (o : TransportInput) (os : List TransportInput) : Control :=
  { c.queried (c.params.pidOf (sessionKind k)) o os with
    six := BitVec.ofNat 2 k.val, qst := .idle, res := c.res.store k (slotOutcome c.params k o) }

theorem qoutDefined_of_endState {s : State} {r : Result Reading} (h : s.qst = endState r) : s.qoutDefined = true := by
  cases r <;> simp [State.qoutDefined, h, endState]

theorem runAct_sessionStore {s : State} (h : s.qoutDefined = true) (k : Fin 3) :
    runAct (.sessionStore k) s = .next (State.afterQuery { s with res := s.res.store k s.qout, qst := .idle } k) := by
  simp [runAct, actSessionStore, h]

/-- A session's k-th query fills its slot. -/
theorem reaches_slotFilled {s : State} {o : TransportInput} {os : List TransportInput} (h : s.Ready o os) (k : Fin 3) :
    ∃ t : State, Reaches (s.doing [.sessionQuery k]) ((t.doing []).afterQuery k) ∧
      t.control = s.control.slotFilled k o os := by
  let u : State := { s with six := BitVec.ofNat 2 k.val }
  have hu : u.Ready o os := ⟨h.rstIn, h.conn, h.qst, h.oracle⟩
  let p := s.params.pidOf (sessionKind k)
  have hbegin : Reaches (s.doing [.sessionQuery k]) (u.doing [.query p, .sessionStore k]) :=
    reaches_of_act h.rstIn rfl
  have hstart : Reaches (u.doing [.query p, .sessionStore k]) _ :=
    reaches_of_act h.rstIn (runAct_query (ready_doing hu [.sessionStore k]) p)
  obtain ⟨t, ht, hc⟩ := reaches_queried hu p [.sessionStore k]
  have hdef : t.qoutDefined = true := qoutDefined_of_endState (congrArg Control.qst hc)
  have hr : t.rstIn = [] := (congrArg Control.rstIn hc).trans h.rstIn
  have hstore : Reaches (t.doing [.sessionStore k]) _ :=
    reaches_of_act hr (runAct_sessionStore (s := t.doing []) hdef k)
  refine ⟨{ t with res := t.res.store k t.qout, qst := .idle },
    ((hbegin.trans hstart).trans ht).trans hstore, ?_⟩
  change { t.control with res := t.control.res.store k t.control.qout, qst := .idle } = _
  rw [hc]
  rfl

/-! ### The session -/

theorem afterQuery_of_fatal {s : State} (h : s.qout = .err .transportError) (k : Fin 3) :
    s.afterQuery k = s.push [.closeConn, .rdres] := if_pos h

theorem afterQuery_zero {s : State} (h : s.qout ≠ .err .transportError) :
    s.afterQuery 0 = s.push [.sessionQuery 1] := if_neg h

theorem afterQuery_one {s : State} (h : s.qout ≠ .err .transportError) :
    s.afterQuery 1 = s.push [.sessionQuery 2] := if_neg h

theorem afterQuery_two {s : State} (h : s.qout ≠ .err .transportError) :
    s.afterQuery 2 = State.push { s with six := 3 } [.closeConn, .rdres] := if_neg h

/-- The state `t` a session leaves, `x` being its results and `SIX`, when a run from `s` came there. -/
structure State.SessionOver (s : State) (x : Results × BitVec 2) (t : State) : Prop where
  results : (t.res, t.six) = x
  conn    : t.conn = .closed
  answer  : t.answer = .results t.res
  qst     : t.qst = .idle
  seq     : t.seq = []
  host    : t.host = s.host
  params  : t.params = s.params

/-- From `s` the micro steps `todo` bring the session to its end with `x`. -/
def State.Closes (s : State) (todo : List Act) (x : Results × BitVec 2) : Prop :=
  ∃ t, Reaches (s.doing todo) t ∧ s.SessionOver x t

theorem closes_closeConn {s : State} {x : Results × BitVec 2} (hr : s.rstIn = []) (hq : s.qst = .idle)
    (hres : s.res = x.1) (hsix : s.six = x.2) : s.Closes [.closeConn, .rdres] x := by
  have hclose : Reaches (s.doing [.closeConn, .rdres]) (s.closeConnection.doing [.rdres]) := reaches_of_act hr rfl
  have hread : Reaches (s.closeConnection.doing [.rdres]) _ := reaches_of_act hr rfl
  exact ⟨_, hclose.trans hread, Prod.ext hres hsix, rfl, rfl, hq, rfl, rfl, rfl⟩

theorem closes_of_reaches {s t : State} {todo todo' : List Act} {x : Results × BitVec 2} (hh : t.host = s.host)
    (hp : t.params = s.params) (h : Reaches (s.doing todo) (t.doing todo')) (ht : t.Closes todo' x) :
    s.Closes todo x := by
  obtain ⟨u, hu, hres, hconn, hans, hqst, hseq, hhost, hparams⟩ := ht
  exact ⟨u, h.trans hu, hres, hconn, hans, hqst, hseq, hhost.trans hh, hparams.trans hp⟩

section

variable {s t : State} {ps : Params} {r : Results} {k : Fin 3} {o o' : TransportInput} {os : List TransportInput}
  {x : Results × BitVec 2}

theorem ready_of_slotFilled (h : s.Ready o (o' :: os)) (hc : t.control = s.control.slotFilled k o (o' :: os)) :
    t.Ready o' os :=
  ⟨(congrArg Control.rstIn hc).trans h.rstIn, (congrArg Control.conn hc).trans h.conn, congrArg Control.qst hc,
    congrArg Control.oracle hc⟩

/-- A query that ends in `TransportError` ends the session, `SIX` staying at it (43_query_sequencer.md R163). -/
theorem closes_of_fatal (h : s.Ready o os) (hp : s.params = ps) (hr : s.res = r)
    (hfatal : slotOutcome ps k o = .err .transportError) :
    s.Closes [.sessionQuery k] (r.store k (slotOutcome ps k o), BitVec.ofNat 2 k.val) := by
  subst hp hr
  obtain ⟨t, ht, hc⟩ := reaches_slotFilled h k
  have hout : t.qout = .err .transportError := (congrArg Control.qout hc).trans hfatal
  rw [afterQuery_of_fatal (s := t.doing []) hout] at ht
  exact closes_of_reaches (congrArg Control.host hc) (congrArg Control.params hc) ht
    (closes_closeConn ((congrArg Control.rstIn hc).trans h.rstIn) (congrArg Control.qst hc) (congrArg Control.res hc)
      (congrArg Control.six hc))

/-- After any other outcome the session goes on to query `k'`, with slot `k` filled. -/
theorem closes_of_goes {k' : Fin 3} (h : s.Ready o (o' :: os)) (hp : s.params = ps) (hr : s.res = r)
    (hgoes : slotOutcome ps k o ≠ .err .transportError)
    (hafter : ∀ t : State, t.qout ≠ .err .transportError → t.afterQuery k = t.push [.sessionQuery k'])
    (hrest : ∀ t : State, t.Ready o' os → t.params = ps → t.res = r.store k (slotOutcome ps k o) →
      t.Closes [.sessionQuery k'] x) :
    s.Closes [.sessionQuery k] x := by
  subst hp hr
  obtain ⟨t, ht, hc⟩ := reaches_slotFilled h k
  have hout : t.qout = slotOutcome s.params k o := congrArg Control.qout hc
  have hparams : t.params = s.params := congrArg Control.params hc
  rw [hafter (t.doing []) (hout ▸ hgoes)] at ht
  exact closes_of_reaches (congrArg Control.host hc) hparams ht
    (hrest t (ready_of_slotFilled h hc) hparams (congrArg Control.res hc))

/-- After the last query the session ends, with `SIX` 3 unless that query ended in `TransportError`. -/
theorem closes_last (h : s.Ready o os) (hp : s.params = ps) (hr : s.res = r) :
    s.Closes [.sessionQuery 2]
      (r.store 2 (slotOutcome ps 2 o), if slotOutcome ps 2 o = .err .transportError then 2 else 3) := by
  by_cases hfatal : slotOutcome ps 2 o = .err .transportError
  · rw [if_pos hfatal]
    exact closes_of_fatal h hp hr hfatal
  rw [if_neg hfatal]
  subst hp hr
  obtain ⟨t, ht, hc⟩ := reaches_slotFilled h 2
  have hout : t.qout = slotOutcome s.params 2 o := congrArg Control.qout hc
  rw [afterQuery_two (s := t.doing []) (hout ▸ hfatal)] at ht
  exact closes_of_reaches (t := { t with six := 3 }) (congrArg Control.host hc) (congrArg Control.params hc) ht
    (closes_closeConn ((congrArg Control.rstIn hc).trans h.rstIn) (congrArg Control.qst hc) (congrArg Control.res hc)
      rfl)

end

/-- A session's queries end in the results of the session on their inputs (43_query_sequencer.md R161, R163). -/
theorem closes_session {s : State} {o0 o1 o2 : TransportInput} {os : List TransportInput}
    (h : s.Ready o0 (o1 :: o2 :: os)) (hr : s.res = noResults) :
    s.Closes [.sessionQuery 0] (sessionResult s.params o0 o1 o2) := by
  by_cases h0 : slotOutcome s.params 0 o0 = .err .transportError
  · rw [sessionResult_of_first h0]
    exact closes_of_fatal h rfl hr h0
  refine closes_of_goes h rfl hr h0 (fun _ => afterQuery_zero) fun t ht hp hres => ?_
  by_cases h1 : slotOutcome s.params 1 o1 = .err .transportError
  · rw [sessionResult_of_second h0 h1]
    exact closes_of_fatal ht hp hres h1
  refine closes_of_goes ht hp hres h1 (fun _ => afterQuery_one) fun u hu hp hres => ?_
  rw [sessionResult_of_third h0 h1]
  exact closes_last hu hp hres

/-- Settles O58: the slots are cleared, the connection opens, and the three queries run to the session's end. -/
theorem sessionRefines : Obligations.SessionRefines := by
  intro s o0 o1 o2 os q bs h hr hs hh hq hopens ho
  let u : State := { s with host := h, res := noResults }
  let v : State := { u with opens := bs, conn := .opened, rxq := q }
  have hsession : Reaches s (u.doing [.sessionOpen]) := .single (step_session hr hs hh)
  have hopen : Reaches (u.doing [.sessionOpen]) (v.doing [.sessionQuery 0]) :=
    reaches_of_act hr (runAct_sessionOpen_of_ok (s := u.doing []) hopens)
  have hv : v.Ready o0 (o1 :: o2 :: os) := ⟨hr, rfl, hq, ho⟩
  obtain ⟨t, ht, hover⟩ := closes_session hv rfl
  obtain ⟨n, hn⟩ := exists_run_of_reaches ((hsession.trans hopen).trans ht)
  exact ⟨n, t, hn, hover.results, sessionEnded_of_result hover.conn hover.results, hover.answer, hover.qst, hover.seq,
    hover.host, hover.params⟩

end Sys2Proof.Machine
end

section
/-! SUPPORT. Proofs about exceptions: the errors a query can report, and what keeps the result slots and the connection
(60_exceptions.md R182, R187). -/

namespace Sys2Proof.Machine

/-! ### The errors of a query -/

/-- The errors that can end a query (60_exceptions.md R182). -/
def queryErrorList : List Error :=
  [.protocolError .malformedLength, .protocolError .wrongService, .decodeError, .unsupportedPid, .timeoutError,
    .transportError]

/-- A frame from another sender or to another pid is skipped, so only these two checks end a query
(43_query_sequencer.md R155). -/
theorem kind_of_classify_fail {f : CheckFlags} {k : CheckKind} (h : classify f = .fail k) :
    k = .malformedLength ∨ k = .wrongService := by
  cases hid : f.idOk with
  | false => rw [classify_of_wrongId hid] at h; cases h
  | true =>
    cases hpid : f.pidOk with
    | false => rw [classify_of_otherPid hpid] at h; cases h
    | true =>
      rw [classify_of_match hid hpid] at h
      split at h
      · cases h; exact .inl rfl
      · split at h
        · cases h; exact .inr rfl
        · cases h

/-- What the receive loop can end in: the errors of the first frame that is not skipped, or of the transport
(43_query_sequencer.md R154). -/
theorem awaitAnswer_err {ps : Params} {p : Byte} {e : Error} {l : List RxEvent} (h : awaitAnswer ps p l = .err e) :
    e ∈ queryErrorList := by
  induction l with
  | nil => cases h; decide
  | cons x l ih =>
    cases x with
    | failure => cases h; decide
    | frame g =>
      cases hc : classify (checks g p) with
      | skip => exact ih (awaitAnswer_of_skip hc l ▸ h)
      | fail k =>
        rw [awaitAnswer_of_fail hc] at h
        cases h
        rcases kind_of_classify_fail hc with rfl | rfl <;> decide
      | accept =>
        obtain ⟨r, hr⟩ := exists_response_of_accept hc
        rw [awaitAnswer_of_response hr] at h
        rcases decodePid_err h with rfl | rfl <;> decide

/-- Settles O53: a query whose send goes through ends as its receive loop does. -/
theorem queryErrors : Obligations.QueryErrors := by
  intro ps p o e h
  unfold queryResult at h
  split at h
  · exact awaitAnswer_err h
  · cases h; decide

/-! ### The result slots and the connection -/

/-- What only a session and the connection's own steps write: `RES` and `CONN`. -/
def State.held (s : State) : Results × Conn := (s.res, s.conn)

theorem held_of_control {s t : State} (h : t.control = s.control) : t.held = s.held :=
  congrArg (fun c => (c.res, c.conn)) h

theorem held_endQuery (s : State) (r : Result Reading) : (s.endQuery r).held = s.held :=
  Prod.ext (endQuery_res s r) (endQuery_conn s r)

theorem held_transportSend (s : State) (g : CanFrame) : (s.transportSend g).held = s.held := by
  rw [transportSend_frame]; rfl

theorem res_openConnection (s : State) : s.openConnection.res = s.res := by
  rw [openConnection_frame]

theorem afterQuery_conn (s : State) (k : Fin 3) : (s.afterQuery k).conn = s.conn := by
  unfold State.afterQuery
  split
  · rfl
  · split <;> rfl

theorem held_actSend {s t : State} (h : actSend s = .next t) : t.held = s.held := by
  obtain ⟨g, rfl⟩ := sendThen_next h
  exact held_transportSend s g

theorem held_actRecv {s t : State} (h : actRecv s = .next t) : t.held = s.held := by
  unfold actRecv at h
  split at h
  · cases h
  · cases h; rfl

theorem held_actQuery {p : Byte} {s t : State} (h : actQuery p s = .next t) : t.held = s.held := by
  unfold actQuery at h
  split at h
  · cases h
  · cases h; rfl
  · cases h

theorem held_actRdQpid {s t : State} (h : actRdQpid s = .next t) : t.held = s.held := by
  unfold actRdQpid at h
  split at h
  · cases h
  · cases h; rfl

theorem held_actTakeOutcome {s t : State} (h : actTakeOutcome s = .next t) : t.held = s.held := by
  unfold actTakeOutcome at h
  split at h
  · cases h; rfl
  · cases h

theorem held_actSeqSend {s t : State} (h : actSeqSend s = .next t) : t.held = s.held := by
  unfold actSeqSend at h
  split at h
  · obtain ⟨g, rfl⟩ := sendThen_next h
    split <;> exact held_transportSend s g
  · cases h

theorem held_actSeqReceive {s t : State} (h : actSeqReceive s = .next t) : t.held = s.held := by
  unfold actSeqReceive at h
  split at h
  · cases h
  · split at h
    · cases h; exact held_endQuery s.transportReceive _
    · cases h; exact held_endQuery s.transportReceive _
    · cases h; rfl
  · cases h

theorem held_actSeqClassify {s t : State} (h : actSeqClassify s = .next t) : t.held = s.held := by
  unfold actSeqClassify at h
  split at h
  · split at h
    · cases h; rfl
    · cases h; exact held_endQuery s _
    · cases h; rfl
  · cases h
  · cases h

theorem held_actSeqReading {s t : State} (h : actSeqReading s = .next t) : t.held = s.held := by
  unfold actSeqReading at h
  split at h
  · split at h
    · cases h; exact held_endQuery s _
    · cases h
  · cases h; rfl
  · cases h
  · cases h

theorem held_actSeqFinish {s t : State} (h : actSeqFinish s = .next t) : t.held = s.held := by
  unfold actSeqFinish at h
  split at h
  · split at h
    · cases h; exact held_endQuery s _
    · cases h
  · cases h
  · cases h

theorem res_actSessionOpen {s t : State} (h : actSessionOpen s = .next t) : t.res = s.res := by
  unfold actSessionOpen at h
  split at h
  · cases h; exact res_openConnection s
  · cases h; exact res_openConnection s

theorem conn_actSessionStore {k : Fin 3} {s t : State} (h : actSessionStore k s = .next t) : t.conn = s.conn := by
  unfold actSessionStore at h
  split at h
  · cases h; exact afterQuery_conn _ k
  · cases h

/-- The act keeps `RES` unless it is one of a session's two writers of it, and `CONN` unless it opens or closes the
connection (60_exceptions.md R187, 43_query_sequencer.md R164). -/
def Act.Keeps (a : Act) (s t : State) : Prop :=
  (a ≠ .session → (∀ k, a ≠ .sessionStore k) → t.res = s.res) ∧
    (a ≠ .openConn → a ≠ .closeConn → a ≠ .sessionOpen → t.conn = s.conn)

theorem keeps_of_held {s t : State} (h : t.held = s.held) (a : Act) : a.Keeps s t :=
  ⟨fun _ _ => congrArg Prod.fst h, fun _ _ _ => congrArg Prod.snd h⟩

/-- The five named writers each leave the other of the two; every other act leaves both. -/
theorem runAct_keeps {a : Act} {s t : State} (h : runAct a s = .next t) : a.Keeps s t := by
  cases a with
  | session => cases h; exact ⟨fun hne => absurd rfl hne, fun _ _ _ => rfl⟩
  | sessionStore k => exact ⟨fun _ hne => absurd rfl (hne k), fun _ _ _ => conn_actSessionStore h⟩
  | openConn => cases h; exact ⟨fun _ _ => res_openConnection s, fun hne => absurd rfl hne⟩
  | closeConn => cases h; exact ⟨fun _ _ => rfl, fun _ hne => absurd rfl hne⟩
  | sessionOpen => exact ⟨fun _ _ => res_actSessionOpen h, fun _ _ hne => absurd rfl hne⟩
  | cmd c => exact keeps_of_held (held_of_control (control_actCmd h)) _
  | frame w => exact keeps_of_held (held_of_control (control_actFrame h)) _
  | rdfrm => cases h; exact keeps_of_held (held_of_control (control_rdFrm s)) _
  | rdrsp => cases h; exact keeps_of_held (held_of_control (control_rdRsp s)) _
  | rdrdg => cases h; exact keeps_of_held (held_of_control (control_rdRdg s)) _
  | rdqpid => exact keeps_of_held (held_actRdQpid h) _
  | send => exact keeps_of_held (held_actSend h) _
  | recv => exact keeps_of_held (held_actRecv h) _
  | decodePid p bs =>
    simp only [runAct] at h
    split at h
    · cases h; exact keeps_of_held rfl _
    · cases h
  | query p => exact keeps_of_held (held_actQuery h) _
  | takeOutcome => exact keeps_of_held (held_actTakeOutcome h) _
  | seqSend => exact keeps_of_held (held_actSeqSend h) _
  | seqReceive => exact keeps_of_held (held_actSeqReceive h) _
  | seqClassify => exact keeps_of_held (held_actSeqClassify h) _
  | seqReading => exact keeps_of_held (held_actSeqReading h) _
  | seqFinish => exact keeps_of_held (held_actSeqFinish h) _
  | ldpid | ldfrm | rdstat | rdcmd | wrstat | rdres | arrive | encodeRequest | decodeResponse | sessionQuery =>
    cases h; exact keeps_of_held rfl _

/-- Settles O56: passing the step boundary leaves both, and so does each act that is no writer of them. -/
theorem resultsKept : Obligations.ResultsKept := by
  intro s t a hr ha h
  have hk : a.Keeps s.sampled.popAct t := runAct_keeps (step_next_act hr ha h)
  rwa [popAct_frame] at hk

end Sys2Proof.Machine
end

section

namespace Sys2Proof.Machine

/-! ### Step boundaries: reset and idling (70_reset_and_hazards.md R210, R211) -/

/-- Reset leaves the values of 10_state.md R40 whatever state it finds. -/
theorem atReset_applyReset (s : State) : s.applyReset.AtReset := resetValues

/-- With no pending micro step and nothing issued by the host, there is no next act. -/
theorem nextAct_eq_none {s : State} (hseq : s.seq = []) (hhost : s.host = []) : s.nextAct = none := by
  simp [State.nextAct, hseq, hhost]

/-- Settles O2: the step is the reset operation, which copies the transport and the parameters. -/
theorem resetAnyState : Obligations.ResetAnyState := fun s hr =>
  ⟨s.sampled.applyReset, step_of_reset hr, atReset_applyReset s.sampled, rfl, rfl, rfl, rfl, rfl, rfl⟩

/-- Settles O3: with no next act, the step only moves past its reset input. -/
theorem idleStep : Obligations.IdleStep := fun _ hr hseq hhost => step_of_none hr (nextAct_eq_none hseq hhost)

end Sys2Proof.Machine
end
